-- ==== Sys2Proof/Word.lean ====
section
/-! DEFINITION. The CORE's byte and word types (spec/00_scope.md R8, R9). The functions of that notation, `hi`, `lo`,
`cat`, `sext_16` and `zext_16`, stand in Sys2Proof/Decode.lean. -/

namespace Sys2Proof

/-- An 8-bit value, the spec's `u8` (R8). Its `+` and `-` are taken modulo 2^8 (R9). -/
abbrev Byte := BitVec 8

/-- A 16-bit value, the spec's `u16` (R8). Its `+` and `-` are taken modulo 2^16 (R9). -/
abbrev Word := BitVec 16

end Sys2Proof
end

