-- ==== Sys2Proof/Config.lean ====
section
/-! DEFINITION. What an implementation fixes: the parameters of spec/00_scope.md rule R7 that have a value for
this hardware, and the one free value of the model, the host's input at a step boundary. The parameters that
R7 leaves as arguments (`BOOT_ROM`, `CART`) and the option `IRQ_DISPATCH` are plain data in State, so that a
statement about every state covers every image and both settings. -/

namespace Sys2Proof

/-- What the host supplies at the boundary before one step: the wake signal `irq_pending` of that step
(spec/40_engine.md R90, spec/60_exceptions.md R177), and the bytes it changes in `VOLATILE`
(spec/20_memory.md R42), applied in order; a cell outside `VOLATILE` is ignored. -/
structure HostInput where
  irqPending : Bool
  changes    : List Host.Cell
  deriving DecidableEq, Repr, Inhabited

namespace Config

/-- `OPEN_BUS`, what an address with no backing byte reads as (R7, R39; decision D6). -/
def openBus : Byte := 0xFF

/-- `CART_END`, the last address of the cartridge window (R7, R38; decision D5). -/
def cartEnd : Nat := 0x7FFF

/-- The last address of the boot ROM overlay (R38). -/
def bootEnd : Nat := 0x00FF

/-- `BOOT_DISABLE_ADDR` (R7, R40; decision D7). -/
def bootDisableAddr : Nat := 0xFF50

/-- The first address of `VOLATILE` (R7, R42; decision D8). -/
def volatileLo : Nat := 0xFF00

/-- The last address of `VOLATILE` (R7, R42; decision D8). -/
def volatileHi : Nat := 0xFF7F

/-- `HC16_BIT`: the half-carry of ADD HL,rr is the carry out of this bit (R7, R117; decision D10). -/
def hc16Bit : Nat := 11

/-- `HALT_IDLE_CYCLES` (R7, R89; decision D11). -/
def haltIdleCycles : Nat := 1

/-- `ILLEGAL_CYCLES` (R7, R71; decision D12). -/
def illegalCycles : Nat := 1

/-- The address of IF, the interrupt requests (spec/60_exceptions.md R179). -/
def ifAddr : Word := 0xFF0F

/-- The address of IE, the interrupt enables (R179). -/
def ieAddr : Word := 0xFFFF

/-- The bits of IE and IF that name a source (R179, R181). -/
def irqMask : Byte := 0x1F

/-- The vector of interrupt source 0; source b has this plus 8·b (R180, R183). -/
def vectorBase : Word := 0x0040

/-- The cost of an interrupt dispatch (R183). -/
def dispatchCycles : Nat := 5

/-- What a byte that memory does not list reads as: a RAM byte that nothing has written, and a byte of the boot ROM
image that the state does not name. DESIGN CHOICE (log entries 2 and 3), unsafe: the spec makes every RAM byte a draw
at reset (R199), leaves the image to the host (R192), and a step never faults on a read (R35). -/
def unlistedByte : Byte := 0x00

/-- FREE VALUE (log entry 4): the host's input at step boundary number `n`, where State schedules none. It has
no body: nothing can be proved about it, so a claim holds for whatever the host does (R42, R90, R92). -/
opaque hostInput : Nat → HostInput

end Config

end Sys2Proof
end

