-- ==== Sys2Proof/Syntax.lean ====
section
/-! DEFINITION. The syntax of spec/30_encoding.md: the argument kinds (R63), the operation kinds (R70), the decoded
record (spec/40_engine.md R76) and `Instr`, with one constructor for each of the 512 rows of
spec/opcode_table.json. -/

namespace Sys2Proof

/-- The 8-bit registers an operand can name (R59, R63). F is no operand: it is written through the flags and as
half of AF only (spec/10_state.md R16). -/
inductive Reg8
  | a | b | c | d | e | h | l
  deriving DecidableEq, Repr

/-- The 16-bit registers an operand can name: the four pairs and SP (R60, R63). -/
inductive Reg16
  | af | bc | de | hl | sp
  deriving DecidableEq, Repr

/-- The condition kinds (R61; spec/40_engine.md R82). The polarity is the source's, the opposite of the SM83's
(spec/90_conflicts.md C2): `zero` is taken when the Zero flag is clear. -/
inductive CondKind
  | zero | nzero | carry | ncarry | none
  deriving DecidableEq, Repr

/-- The argument kinds of R63, each with the payload it carries once decoded (R76). -/
inductive Arg
  /-- `R8:r`, a named 8-bit register. -/
  | r8 (r : Reg8)
  /-- `R16:rr`, a named pair or SP. -/
  | r16 (rr : Reg16)
  /-- `PTR:rr`, the byte at the address in `rr`. -/
  | ptr (rr : Reg16)
  /-- `PTR_INC:HL`, the byte at HL, then HL + 1. -/
  | ptrInc
  /-- `PTR_DEC:HL`, the byte at HL, then HL - 1. -/
  | ptrDec
  /-- `IO_IMM8`, the byte at 0xFF00 + a8. -/
  | ioImm8 (n : Byte)
  /-- `IO_C`, the byte at 0xFF00 + C. -/
  | ioC
  /-- `IMM8`, the value d8. -/
  | imm8 (n : Byte)
  /-- `IMM16`, the value d16 (or a jump target a16). -/
  | imm16 (w : Word)
  /-- `SIMM8`, the signed immediate e8. -/
  | simm8 (n : Byte)
  /-- `PTR_IMM16`, the byte at a16. -/
  | ptrImm16 (w : Word)
  /-- `SP_OFFSET`, the value SP + e8. -/
  | spOffset (n : Byte)
  /-- `COND:k`, a branch condition. -/
  | cond (k : CondKind)
  /-- `LIT:n`, a literal of the table: an RST target or a bit number (R62). -/
  | lit (n : Byte)
  /-- `NONE`. -/
  | none
  deriving DecidableEq, Repr

/-- The 45 operation kinds of R70. -/
inductive Kind
  | nop | ld | inc | dec | rlca | rrca | rla | rra | daa | cpl | scf | ccf
  | add | adc | sub | sbc | and | xor | or | cp
  | jr | jp | call | ret | reti | rst | push | pop
  | halt | stop | di | ei
  | rlc | rrc | rl | rr | sla | sra | swap | srl | bit | res | set
  | prefixCb | illegal
  deriving DecidableEq, Repr

/-- The table and the index an entry came from (R76): the base table, or the extended table behind 0xCB. -/
inductive Opcode
  | base (o : Byte)
  | cb (o : Byte)
  deriving DecidableEq, Repr

/-- The decoded `Instruction` record of spec/40_engine.md R76. `cycles` is the base cost, `takenExtra` what a
taken conditional transfer adds (R87). -/
structure Record where
  opcode     : Opcode
  kind       : Kind
  lhs        : Arg
  rhs        : Arg
  length     : Nat
  cycles     : Nat
  takenExtra : Nat
  deriving DecidableEq, Repr

/-- The instructions: one constructor for each row of spec/opcode_table.json, first the rows that carry operand
bytes, then the others, each in the table's order (base 0x00 to 0xFF, then extended 0xCB00 to 0xCBFF). A name is the row's mnemonic in lower case, its
parts joined by `_`; an operand in parentheses is written with an `m` before it (`mhl` is (HL), `mhli` is (HL+),
`mhld` is (HL-), `ma16` is (a16)). A constructor carries the operand bytes of its row: `n` an 8-bit
immediate, `w` a 16-bit one. `prefix_cb` carries the selector byte that follows the prefix (R67). -/
inductive Instr
  | ld_bc_d16 (w : Word)        -- 0x01 LD BC,d16
  | ld_b_d8 (n : Byte)          -- 0x06 LD B,d8
  | ld_ma16_sp (w : Word)       -- 0x08 LD (a16),SP
  | ld_c_d8 (n : Byte)          -- 0x0E LD C,d8
  | stop_d8 (n : Byte)          -- 0x10 STOP d8
  | ld_de_d16 (w : Word)        -- 0x11 LD DE,d16
  | ld_d_d8 (n : Byte)          -- 0x16 LD D,d8
  | jr_e8 (n : Byte)            -- 0x18 JR e8
  | ld_e_d8 (n : Byte)          -- 0x1E LD E,d8
  | jr_nz_e8 (n : Byte)         -- 0x20 JR NZ,e8
  | ld_hl_d16 (w : Word)        -- 0x21 LD HL,d16
  | ld_h_d8 (n : Byte)          -- 0x26 LD H,d8
  | jr_z_e8 (n : Byte)          -- 0x28 JR Z,e8
  | ld_l_d8 (n : Byte)          -- 0x2E LD L,d8
  | jr_nc_e8 (n : Byte)         -- 0x30 JR NC,e8
  | ld_sp_d16 (w : Word)        -- 0x31 LD SP,d16
  | ld_mhl_d8 (n : Byte)        -- 0x36 LD (HL),d8
  | jr_c_e8 (n : Byte)          -- 0x38 JR C,e8
  | ld_a_d8 (n : Byte)          -- 0x3E LD A,d8
  | jp_nz_a16 (w : Word)        -- 0xC2 JP NZ,a16
  | jp_a16 (w : Word)           -- 0xC3 JP a16
  | call_nz_a16 (w : Word)      -- 0xC4 CALL NZ,a16
  | add_a_d8 (n : Byte)         -- 0xC6 ADD A,d8
  | jp_z_a16 (w : Word)         -- 0xCA JP Z,a16
  | prefix_cb (sel : Byte)      -- 0xCB PREFIX CB
  | call_z_a16 (w : Word)       -- 0xCC CALL Z,a16
  | call_a16 (w : Word)         -- 0xCD CALL a16
  | adc_a_d8 (n : Byte)         -- 0xCE ADC A,d8
  | jp_nc_a16 (w : Word)        -- 0xD2 JP NC,a16
  | call_nc_a16 (w : Word)      -- 0xD4 CALL NC,a16
  | sub_a_d8 (n : Byte)         -- 0xD6 SUB A,d8
  | jp_c_a16 (w : Word)         -- 0xDA JP C,a16
  | call_c_a16 (w : Word)       -- 0xDC CALL C,a16
  | sbc_a_d8 (n : Byte)         -- 0xDE SBC A,d8
  | ldh_ma8_a (n : Byte)        -- 0xE0 LDH (a8),A
  | and_a_d8 (n : Byte)         -- 0xE6 AND A,d8
  | add_sp_e8 (n : Byte)        -- 0xE8 ADD SP,e8
  | ld_ma16_a (w : Word)        -- 0xEA LD (a16),A
  | xor_a_d8 (n : Byte)         -- 0xEE XOR A,d8
  | ldh_a_ma8 (n : Byte)        -- 0xF0 LDH A,(a8)
  | or_a_d8 (n : Byte)          -- 0xF6 OR A,d8
  | ld_hl_spe8 (n : Byte)       -- 0xF8 LD HL,SP+e8
  | ld_a_ma16 (w : Word)        -- 0xFA LD A,(a16)
  | cp_a_d8 (n : Byte)          -- 0xFE CP A,d8
  | nop                         -- 0x00 NOP
  | ld_mbc_a                    -- 0x02 LD (BC),A
  | inc_bc                      -- 0x03 INC BC
  | inc_b                       -- 0x04 INC B
  | dec_b                       -- 0x05 DEC B
  | rlca                        -- 0x07 RLCA
  | add_hl_bc                   -- 0x09 ADD HL,BC
  | ld_a_mbc                    -- 0x0A LD A,(BC)
  | dec_bc                      -- 0x0B DEC BC
  | inc_c                       -- 0x0C INC C
  | dec_c                       -- 0x0D DEC C
  | rrca                        -- 0x0F RRCA
  | ld_mde_a                    -- 0x12 LD (DE),A
  | inc_de                      -- 0x13 INC DE
  | inc_d                       -- 0x14 INC D
  | dec_d                       -- 0x15 DEC D
  | rla                         -- 0x17 RLA
  | add_hl_de                   -- 0x19 ADD HL,DE
  | ld_a_mde                    -- 0x1A LD A,(DE)
  | dec_de                      -- 0x1B DEC DE
  | inc_e                       -- 0x1C INC E
  | dec_e                       -- 0x1D DEC E
  | rra                         -- 0x1F RRA
  | ld_mhli_a                   -- 0x22 LD (HL+),A
  | inc_hl                      -- 0x23 INC HL
  | inc_h                       -- 0x24 INC H
  | dec_h                       -- 0x25 DEC H
  | daa                         -- 0x27 DAA
  | add_hl_hl                   -- 0x29 ADD HL,HL
  | ld_a_mhli                   -- 0x2A LD A,(HL+)
  | dec_hl                      -- 0x2B DEC HL
  | inc_l                       -- 0x2C INC L
  | dec_l                       -- 0x2D DEC L
  | cpl                         -- 0x2F CPL
  | ld_mhld_a                   -- 0x32 LD (HL-),A
  | inc_sp                      -- 0x33 INC SP
  | inc_mhl                     -- 0x34 INC (HL)
  | dec_mhl                     -- 0x35 DEC (HL)
  | scf                         -- 0x37 SCF
  | add_hl_sp                   -- 0x39 ADD HL,SP
  | ld_a_mhld                   -- 0x3A LD A,(HL-)
  | dec_sp                      -- 0x3B DEC SP
  | inc_a                       -- 0x3C INC A
  | dec_a                       -- 0x3D DEC A
  | ccf                         -- 0x3F CCF
  | ld_b_b                      -- 0x40 LD B,B
  | ld_b_c                      -- 0x41 LD B,C
  | ld_b_d                      -- 0x42 LD B,D
  | ld_b_e                      -- 0x43 LD B,E
  | ld_b_h                      -- 0x44 LD B,H
  | ld_b_l                      -- 0x45 LD B,L
  | ld_b_mhl                    -- 0x46 LD B,(HL)
  | ld_b_a                      -- 0x47 LD B,A
  | ld_c_b                      -- 0x48 LD C,B
  | ld_c_c                      -- 0x49 LD C,C
  | ld_c_d                      -- 0x4A LD C,D
  | ld_c_e                      -- 0x4B LD C,E
  | ld_c_h                      -- 0x4C LD C,H
  | ld_c_l                      -- 0x4D LD C,L
  | ld_c_mhl                    -- 0x4E LD C,(HL)
  | ld_c_a                      -- 0x4F LD C,A
  | ld_d_b                      -- 0x50 LD D,B
  | ld_d_c                      -- 0x51 LD D,C
  | ld_d_d                      -- 0x52 LD D,D
  | ld_d_e                      -- 0x53 LD D,E
  | ld_d_h                      -- 0x54 LD D,H
  | ld_d_l                      -- 0x55 LD D,L
  | ld_d_mhl                    -- 0x56 LD D,(HL)
  | ld_d_a                      -- 0x57 LD D,A
  | ld_e_b                      -- 0x58 LD E,B
  | ld_e_c                      -- 0x59 LD E,C
  | ld_e_d                      -- 0x5A LD E,D
  | ld_e_e                      -- 0x5B LD E,E
  | ld_e_h                      -- 0x5C LD E,H
  | ld_e_l                      -- 0x5D LD E,L
  | ld_e_mhl                    -- 0x5E LD E,(HL)
  | ld_e_a                      -- 0x5F LD E,A
  | ld_h_b                      -- 0x60 LD H,B
  | ld_h_c                      -- 0x61 LD H,C
  | ld_h_d                      -- 0x62 LD H,D
  | ld_h_e                      -- 0x63 LD H,E
  | ld_h_h                      -- 0x64 LD H,H
  | ld_h_l                      -- 0x65 LD H,L
  | ld_h_mhl                    -- 0x66 LD H,(HL)
  | ld_h_a                      -- 0x67 LD H,A
  | ld_l_b                      -- 0x68 LD L,B
  | ld_l_c                      -- 0x69 LD L,C
  | ld_l_d                      -- 0x6A LD L,D
  | ld_l_e                      -- 0x6B LD L,E
  | ld_l_h                      -- 0x6C LD L,H
  | ld_l_l                      -- 0x6D LD L,L
  | ld_l_mhl                    -- 0x6E LD L,(HL)
  | ld_l_a                      -- 0x6F LD L,A
  | ld_mhl_b                    -- 0x70 LD (HL),B
  | ld_mhl_c                    -- 0x71 LD (HL),C
  | ld_mhl_d                    -- 0x72 LD (HL),D
  | ld_mhl_e                    -- 0x73 LD (HL),E
  | ld_mhl_h                    -- 0x74 LD (HL),H
  | ld_mhl_l                    -- 0x75 LD (HL),L
  | halt                        -- 0x76 HALT
  | ld_mhl_a                    -- 0x77 LD (HL),A
  | ld_a_b                      -- 0x78 LD A,B
  | ld_a_c                      -- 0x79 LD A,C
  | ld_a_d                      -- 0x7A LD A,D
  | ld_a_e                      -- 0x7B LD A,E
  | ld_a_h                      -- 0x7C LD A,H
  | ld_a_l                      -- 0x7D LD A,L
  | ld_a_mhl                    -- 0x7E LD A,(HL)
  | ld_a_a                      -- 0x7F LD A,A
  | add_a_b                     -- 0x80 ADD A,B
  | add_a_c                     -- 0x81 ADD A,C
  | add_a_d                     -- 0x82 ADD A,D
  | add_a_e                     -- 0x83 ADD A,E
  | add_a_h                     -- 0x84 ADD A,H
  | add_a_l                     -- 0x85 ADD A,L
  | add_a_mhl                   -- 0x86 ADD A,(HL)
  | add_a_a                     -- 0x87 ADD A,A
  | adc_a_b                     -- 0x88 ADC A,B
  | adc_a_c                     -- 0x89 ADC A,C
  | adc_a_d                     -- 0x8A ADC A,D
  | adc_a_e                     -- 0x8B ADC A,E
  | adc_a_h                     -- 0x8C ADC A,H
  | adc_a_l                     -- 0x8D ADC A,L
  | adc_a_mhl                   -- 0x8E ADC A,(HL)
  | adc_a_a                     -- 0x8F ADC A,A
  | sub_a_b                     -- 0x90 SUB A,B
  | sub_a_c                     -- 0x91 SUB A,C
  | sub_a_d                     -- 0x92 SUB A,D
  | sub_a_e                     -- 0x93 SUB A,E
  | sub_a_h                     -- 0x94 SUB A,H
  | sub_a_l                     -- 0x95 SUB A,L
  | sub_a_mhl                   -- 0x96 SUB A,(HL)
  | sub_a_a                     -- 0x97 SUB A,A
  | sbc_a_b                     -- 0x98 SBC A,B
  | sbc_a_c                     -- 0x99 SBC A,C
  | sbc_a_d                     -- 0x9A SBC A,D
  | sbc_a_e                     -- 0x9B SBC A,E
  | sbc_a_h                     -- 0x9C SBC A,H
  | sbc_a_l                     -- 0x9D SBC A,L
  | sbc_a_mhl                   -- 0x9E SBC A,(HL)
  | sbc_a_a                     -- 0x9F SBC A,A
  | and_a_b                     -- 0xA0 AND A,B
  | and_a_c                     -- 0xA1 AND A,C
  | and_a_d                     -- 0xA2 AND A,D
  | and_a_e                     -- 0xA3 AND A,E
  | and_a_h                     -- 0xA4 AND A,H
  | and_a_l                     -- 0xA5 AND A,L
  | and_a_mhl                   -- 0xA6 AND A,(HL)
  | and_a_a                     -- 0xA7 AND A,A
  | xor_a_b                     -- 0xA8 XOR A,B
  | xor_a_c                     -- 0xA9 XOR A,C
  | xor_a_d                     -- 0xAA XOR A,D
  | xor_a_e                     -- 0xAB XOR A,E
  | xor_a_h                     -- 0xAC XOR A,H
  | xor_a_l                     -- 0xAD XOR A,L
  | xor_a_mhl                   -- 0xAE XOR A,(HL)
  | xor_a_a                     -- 0xAF XOR A,A
  | or_a_b                      -- 0xB0 OR A,B
  | or_a_c                      -- 0xB1 OR A,C
  | or_a_d                      -- 0xB2 OR A,D
  | or_a_e                      -- 0xB3 OR A,E
  | or_a_h                      -- 0xB4 OR A,H
  | or_a_l                      -- 0xB5 OR A,L
  | or_a_mhl                    -- 0xB6 OR A,(HL)
  | or_a_a                      -- 0xB7 OR A,A
  | cp_a_b                      -- 0xB8 CP A,B
  | cp_a_c                      -- 0xB9 CP A,C
  | cp_a_d                      -- 0xBA CP A,D
  | cp_a_e                      -- 0xBB CP A,E
  | cp_a_h                      -- 0xBC CP A,H
  | cp_a_l                      -- 0xBD CP A,L
  | cp_a_mhl                    -- 0xBE CP A,(HL)
  | cp_a_a                      -- 0xBF CP A,A
  | ret_nz                      -- 0xC0 RET NZ
  | pop_bc                      -- 0xC1 POP BC
  | push_bc                     -- 0xC5 PUSH BC
  | rst_00                      -- 0xC7 RST 0x00
  | ret_z                       -- 0xC8 RET Z
  | ret                         -- 0xC9 RET
  | rst_08                      -- 0xCF RST 0x08
  | ret_nc                      -- 0xD0 RET NC
  | pop_de                      -- 0xD1 POP DE
  | illegal_d3                  -- 0xD3 ILLEGAL_D3
  | push_de                     -- 0xD5 PUSH DE
  | rst_10                      -- 0xD7 RST 0x10
  | ret_c                       -- 0xD8 RET C
  | reti                        -- 0xD9 RETI
  | illegal_db                  -- 0xDB ILLEGAL_DB
  | illegal_dd                  -- 0xDD ILLEGAL_DD
  | rst_18                      -- 0xDF RST 0x18
  | pop_hl                      -- 0xE1 POP HL
  | ld_mc_a                     -- 0xE2 LD (C),A
  | illegal_e3                  -- 0xE3 ILLEGAL_E3
  | illegal_e4                  -- 0xE4 ILLEGAL_E4
  | push_hl                     -- 0xE5 PUSH HL
  | rst_20                      -- 0xE7 RST 0x20
  | jp_hl                       -- 0xE9 JP HL
  | illegal_eb                  -- 0xEB ILLEGAL_EB
  | illegal_ec                  -- 0xEC ILLEGAL_EC
  | illegal_ed                  -- 0xED ILLEGAL_ED
  | rst_28                      -- 0xEF RST 0x28
  | pop_af                      -- 0xF1 POP AF
  | ld_a_mc                     -- 0xF2 LD A,(C)
  | di                          -- 0xF3 DI
  | illegal_f4                  -- 0xF4 ILLEGAL_F4
  | push_af                     -- 0xF5 PUSH AF
  | rst_30                      -- 0xF7 RST 0x30
  | ld_sp_hl                    -- 0xF9 LD SP,HL
  | ei                          -- 0xFB EI
  | illegal_fc                  -- 0xFC ILLEGAL_FC
  | illegal_fd                  -- 0xFD ILLEGAL_FD
  | rst_38                      -- 0xFF RST 0x38
  | rlc_b                       -- 0xCB00 RLC B
  | rlc_c                       -- 0xCB01 RLC C
  | rlc_d                       -- 0xCB02 RLC D
  | rlc_e                       -- 0xCB03 RLC E
  | rlc_h                       -- 0xCB04 RLC H
  | rlc_l                       -- 0xCB05 RLC L
  | rlc_mhl                     -- 0xCB06 RLC (HL)
  | rlc_a                       -- 0xCB07 RLC A
  | rrc_b                       -- 0xCB08 RRC B
  | rrc_c                       -- 0xCB09 RRC C
  | rrc_d                       -- 0xCB0A RRC D
  | rrc_e                       -- 0xCB0B RRC E
  | rrc_h                       -- 0xCB0C RRC H
  | rrc_l                       -- 0xCB0D RRC L
  | rrc_mhl                     -- 0xCB0E RRC (HL)
  | rrc_a                       -- 0xCB0F RRC A
  | rl_b                        -- 0xCB10 RL B
  | rl_c                        -- 0xCB11 RL C
  | rl_d                        -- 0xCB12 RL D
  | rl_e                        -- 0xCB13 RL E
  | rl_h                        -- 0xCB14 RL H
  | rl_l                        -- 0xCB15 RL L
  | rl_mhl                      -- 0xCB16 RL (HL)
  | rl_a                        -- 0xCB17 RL A
  | rr_b                        -- 0xCB18 RR B
  | rr_c                        -- 0xCB19 RR C
  | rr_d                        -- 0xCB1A RR D
  | rr_e                        -- 0xCB1B RR E
  | rr_h                        -- 0xCB1C RR H
  | rr_l                        -- 0xCB1D RR L
  | rr_mhl                      -- 0xCB1E RR (HL)
  | rr_a                        -- 0xCB1F RR A
  | sla_b                       -- 0xCB20 SLA B
  | sla_c                       -- 0xCB21 SLA C
  | sla_d                       -- 0xCB22 SLA D
  | sla_e                       -- 0xCB23 SLA E
  | sla_h                       -- 0xCB24 SLA H
  | sla_l                       -- 0xCB25 SLA L
  | sla_mhl                     -- 0xCB26 SLA (HL)
  | sla_a                       -- 0xCB27 SLA A
  | sra_b                       -- 0xCB28 SRA B
  | sra_c                       -- 0xCB29 SRA C
  | sra_d                       -- 0xCB2A SRA D
  | sra_e                       -- 0xCB2B SRA E
  | sra_h                       -- 0xCB2C SRA H
  | sra_l                       -- 0xCB2D SRA L
  | sra_mhl                     -- 0xCB2E SRA (HL)
  | sra_a                       -- 0xCB2F SRA A
  | swap_b                      -- 0xCB30 SWAP B
  | swap_c                      -- 0xCB31 SWAP C
  | swap_d                      -- 0xCB32 SWAP D
  | swap_e                      -- 0xCB33 SWAP E
  | swap_h                      -- 0xCB34 SWAP H
  | swap_l                      -- 0xCB35 SWAP L
  | swap_mhl                    -- 0xCB36 SWAP (HL)
  | swap_a                      -- 0xCB37 SWAP A
  | srl_b                       -- 0xCB38 SRL B
  | srl_c                       -- 0xCB39 SRL C
  | srl_d                       -- 0xCB3A SRL D
  | srl_e                       -- 0xCB3B SRL E
  | srl_h                       -- 0xCB3C SRL H
  | srl_l                       -- 0xCB3D SRL L
  | srl_mhl                     -- 0xCB3E SRL (HL)
  | srl_a                       -- 0xCB3F SRL A
  | bit_0_b                     -- 0xCB40 BIT 0,B
  | bit_0_c                     -- 0xCB41 BIT 0,C
  | bit_0_d                     -- 0xCB42 BIT 0,D
  | bit_0_e                     -- 0xCB43 BIT 0,E
  | bit_0_h                     -- 0xCB44 BIT 0,H
  | bit_0_l                     -- 0xCB45 BIT 0,L
  | bit_0_mhl                   -- 0xCB46 BIT 0,(HL)
  | bit_0_a                     -- 0xCB47 BIT 0,A
  | bit_1_b                     -- 0xCB48 BIT 1,B
  | bit_1_c                     -- 0xCB49 BIT 1,C
  | bit_1_d                     -- 0xCB4A BIT 1,D
  | bit_1_e                     -- 0xCB4B BIT 1,E
  | bit_1_h                     -- 0xCB4C BIT 1,H
  | bit_1_l                     -- 0xCB4D BIT 1,L
  | bit_1_mhl                   -- 0xCB4E BIT 1,(HL)
  | bit_1_a                     -- 0xCB4F BIT 1,A
  | bit_2_b                     -- 0xCB50 BIT 2,B
  | bit_2_c                     -- 0xCB51 BIT 2,C
  | bit_2_d                     -- 0xCB52 BIT 2,D
  | bit_2_e                     -- 0xCB53 BIT 2,E
  | bit_2_h                     -- 0xCB54 BIT 2,H
  | bit_2_l                     -- 0xCB55 BIT 2,L
  | bit_2_mhl                   -- 0xCB56 BIT 2,(HL)
  | bit_2_a                     -- 0xCB57 BIT 2,A
  | bit_3_b                     -- 0xCB58 BIT 3,B
  | bit_3_c                     -- 0xCB59 BIT 3,C
  | bit_3_d                     -- 0xCB5A BIT 3,D
  | bit_3_e                     -- 0xCB5B BIT 3,E
  | bit_3_h                     -- 0xCB5C BIT 3,H
  | bit_3_l                     -- 0xCB5D BIT 3,L
  | bit_3_mhl                   -- 0xCB5E BIT 3,(HL)
  | bit_3_a                     -- 0xCB5F BIT 3,A
  | bit_4_b                     -- 0xCB60 BIT 4,B
  | bit_4_c                     -- 0xCB61 BIT 4,C
  | bit_4_d                     -- 0xCB62 BIT 4,D
  | bit_4_e                     -- 0xCB63 BIT 4,E
  | bit_4_h                     -- 0xCB64 BIT 4,H
  | bit_4_l                     -- 0xCB65 BIT 4,L
  | bit_4_mhl                   -- 0xCB66 BIT 4,(HL)
  | bit_4_a                     -- 0xCB67 BIT 4,A
  | bit_5_b                     -- 0xCB68 BIT 5,B
  | bit_5_c                     -- 0xCB69 BIT 5,C
  | bit_5_d                     -- 0xCB6A BIT 5,D
  | bit_5_e                     -- 0xCB6B BIT 5,E
  | bit_5_h                     -- 0xCB6C BIT 5,H
  | bit_5_l                     -- 0xCB6D BIT 5,L
  | bit_5_mhl                   -- 0xCB6E BIT 5,(HL)
  | bit_5_a                     -- 0xCB6F BIT 5,A
  | bit_6_b                     -- 0xCB70 BIT 6,B
  | bit_6_c                     -- 0xCB71 BIT 6,C
  | bit_6_d                     -- 0xCB72 BIT 6,D
  | bit_6_e                     -- 0xCB73 BIT 6,E
  | bit_6_h                     -- 0xCB74 BIT 6,H
  | bit_6_l                     -- 0xCB75 BIT 6,L
  | bit_6_mhl                   -- 0xCB76 BIT 6,(HL)
  | bit_6_a                     -- 0xCB77 BIT 6,A
  | bit_7_b                     -- 0xCB78 BIT 7,B
  | bit_7_c                     -- 0xCB79 BIT 7,C
  | bit_7_d                     -- 0xCB7A BIT 7,D
  | bit_7_e                     -- 0xCB7B BIT 7,E
  | bit_7_h                     -- 0xCB7C BIT 7,H
  | bit_7_l                     -- 0xCB7D BIT 7,L
  | bit_7_mhl                   -- 0xCB7E BIT 7,(HL)
  | bit_7_a                     -- 0xCB7F BIT 7,A
  | res_0_b                     -- 0xCB80 RES 0,B
  | res_0_c                     -- 0xCB81 RES 0,C
  | res_0_d                     -- 0xCB82 RES 0,D
  | res_0_e                     -- 0xCB83 RES 0,E
  | res_0_h                     -- 0xCB84 RES 0,H
  | res_0_l                     -- 0xCB85 RES 0,L
  | res_0_mhl                   -- 0xCB86 RES 0,(HL)
  | res_0_a                     -- 0xCB87 RES 0,A
  | res_1_b                     -- 0xCB88 RES 1,B
  | res_1_c                     -- 0xCB89 RES 1,C
  | res_1_d                     -- 0xCB8A RES 1,D
  | res_1_e                     -- 0xCB8B RES 1,E
  | res_1_h                     -- 0xCB8C RES 1,H
  | res_1_l                     -- 0xCB8D RES 1,L
  | res_1_mhl                   -- 0xCB8E RES 1,(HL)
  | res_1_a                     -- 0xCB8F RES 1,A
  | res_2_b                     -- 0xCB90 RES 2,B
  | res_2_c                     -- 0xCB91 RES 2,C
  | res_2_d                     -- 0xCB92 RES 2,D
  | res_2_e                     -- 0xCB93 RES 2,E
  | res_2_h                     -- 0xCB94 RES 2,H
  | res_2_l                     -- 0xCB95 RES 2,L
  | res_2_mhl                   -- 0xCB96 RES 2,(HL)
  | res_2_a                     -- 0xCB97 RES 2,A
  | res_3_b                     -- 0xCB98 RES 3,B
  | res_3_c                     -- 0xCB99 RES 3,C
  | res_3_d                     -- 0xCB9A RES 3,D
  | res_3_e                     -- 0xCB9B RES 3,E
  | res_3_h                     -- 0xCB9C RES 3,H
  | res_3_l                     -- 0xCB9D RES 3,L
  | res_3_mhl                   -- 0xCB9E RES 3,(HL)
  | res_3_a                     -- 0xCB9F RES 3,A
  | res_4_b                     -- 0xCBA0 RES 4,B
  | res_4_c                     -- 0xCBA1 RES 4,C
  | res_4_d                     -- 0xCBA2 RES 4,D
  | res_4_e                     -- 0xCBA3 RES 4,E
  | res_4_h                     -- 0xCBA4 RES 4,H
  | res_4_l                     -- 0xCBA5 RES 4,L
  | res_4_mhl                   -- 0xCBA6 RES 4,(HL)
  | res_4_a                     -- 0xCBA7 RES 4,A
  | res_5_b                     -- 0xCBA8 RES 5,B
  | res_5_c                     -- 0xCBA9 RES 5,C
  | res_5_d                     -- 0xCBAA RES 5,D
  | res_5_e                     -- 0xCBAB RES 5,E
  | res_5_h                     -- 0xCBAC RES 5,H
  | res_5_l                     -- 0xCBAD RES 5,L
  | res_5_mhl                   -- 0xCBAE RES 5,(HL)
  | res_5_a                     -- 0xCBAF RES 5,A
  | res_6_b                     -- 0xCBB0 RES 6,B
  | res_6_c                     -- 0xCBB1 RES 6,C
  | res_6_d                     -- 0xCBB2 RES 6,D
  | res_6_e                     -- 0xCBB3 RES 6,E
  | res_6_h                     -- 0xCBB4 RES 6,H
  | res_6_l                     -- 0xCBB5 RES 6,L
  | res_6_mhl                   -- 0xCBB6 RES 6,(HL)
  | res_6_a                     -- 0xCBB7 RES 6,A
  | res_7_b                     -- 0xCBB8 RES 7,B
  | res_7_c                     -- 0xCBB9 RES 7,C
  | res_7_d                     -- 0xCBBA RES 7,D
  | res_7_e                     -- 0xCBBB RES 7,E
  | res_7_h                     -- 0xCBBC RES 7,H
  | res_7_l                     -- 0xCBBD RES 7,L
  | res_7_mhl                   -- 0xCBBE RES 7,(HL)
  | res_7_a                     -- 0xCBBF RES 7,A
  | set_0_b                     -- 0xCBC0 SET 0,B
  | set_0_c                     -- 0xCBC1 SET 0,C
  | set_0_d                     -- 0xCBC2 SET 0,D
  | set_0_e                     -- 0xCBC3 SET 0,E
  | set_0_h                     -- 0xCBC4 SET 0,H
  | set_0_l                     -- 0xCBC5 SET 0,L
  | set_0_mhl                   -- 0xCBC6 SET 0,(HL)
  | set_0_a                     -- 0xCBC7 SET 0,A
  | set_1_b                     -- 0xCBC8 SET 1,B
  | set_1_c                     -- 0xCBC9 SET 1,C
  | set_1_d                     -- 0xCBCA SET 1,D
  | set_1_e                     -- 0xCBCB SET 1,E
  | set_1_h                     -- 0xCBCC SET 1,H
  | set_1_l                     -- 0xCBCD SET 1,L
  | set_1_mhl                   -- 0xCBCE SET 1,(HL)
  | set_1_a                     -- 0xCBCF SET 1,A
  | set_2_b                     -- 0xCBD0 SET 2,B
  | set_2_c                     -- 0xCBD1 SET 2,C
  | set_2_d                     -- 0xCBD2 SET 2,D
  | set_2_e                     -- 0xCBD3 SET 2,E
  | set_2_h                     -- 0xCBD4 SET 2,H
  | set_2_l                     -- 0xCBD5 SET 2,L
  | set_2_mhl                   -- 0xCBD6 SET 2,(HL)
  | set_2_a                     -- 0xCBD7 SET 2,A
  | set_3_b                     -- 0xCBD8 SET 3,B
  | set_3_c                     -- 0xCBD9 SET 3,C
  | set_3_d                     -- 0xCBDA SET 3,D
  | set_3_e                     -- 0xCBDB SET 3,E
  | set_3_h                     -- 0xCBDC SET 3,H
  | set_3_l                     -- 0xCBDD SET 3,L
  | set_3_mhl                   -- 0xCBDE SET 3,(HL)
  | set_3_a                     -- 0xCBDF SET 3,A
  | set_4_b                     -- 0xCBE0 SET 4,B
  | set_4_c                     -- 0xCBE1 SET 4,C
  | set_4_d                     -- 0xCBE2 SET 4,D
  | set_4_e                     -- 0xCBE3 SET 4,E
  | set_4_h                     -- 0xCBE4 SET 4,H
  | set_4_l                     -- 0xCBE5 SET 4,L
  | set_4_mhl                   -- 0xCBE6 SET 4,(HL)
  | set_4_a                     -- 0xCBE7 SET 4,A
  | set_5_b                     -- 0xCBE8 SET 5,B
  | set_5_c                     -- 0xCBE9 SET 5,C
  | set_5_d                     -- 0xCBEA SET 5,D
  | set_5_e                     -- 0xCBEB SET 5,E
  | set_5_h                     -- 0xCBEC SET 5,H
  | set_5_l                     -- 0xCBED SET 5,L
  | set_5_mhl                   -- 0xCBEE SET 5,(HL)
  | set_5_a                     -- 0xCBEF SET 5,A
  | set_6_b                     -- 0xCBF0 SET 6,B
  | set_6_c                     -- 0xCBF1 SET 6,C
  | set_6_d                     -- 0xCBF2 SET 6,D
  | set_6_e                     -- 0xCBF3 SET 6,E
  | set_6_h                     -- 0xCBF4 SET 6,H
  | set_6_l                     -- 0xCBF5 SET 6,L
  | set_6_mhl                   -- 0xCBF6 SET 6,(HL)
  | set_6_a                     -- 0xCBF7 SET 6,A
  | set_7_b                     -- 0xCBF8 SET 7,B
  | set_7_c                     -- 0xCBF9 SET 7,C
  | set_7_d                     -- 0xCBFA SET 7,D
  | set_7_e                     -- 0xCBFB SET 7,E
  | set_7_h                     -- 0xCBFC SET 7,H
  | set_7_l                     -- 0xCBFD SET 7,L
  | set_7_mhl                   -- 0xCBFE SET 7,(HL)
  | set_7_a                     -- 0xCBFF SET 7,A
  deriving DecidableEq, Repr

/-- `payload_size` of an argument kind: how many immediate bytes it takes (R63). -/
def Arg.payloadSize : Arg → Nat
  | .ioImm8 _ | .imm8 _ | .simm8 _ | .spOffset _ => 1
  | .imm16 _ | .ptrImm16 _ => 2
  | .r8 _ | .r16 _ | .ptr _ | .ptrInc | .ptrDec | .ioC | .cond _ | .lit _ | .none => 0

end Sys2Proof
end

