-- ==== Sys2Proof/WellFormed.lean ====
section
/-! DEFINITION. Which instructions and which decoded records are well formed. Operand widths are in the types, so
the checks that remain are the prefix entry, which is never an instruction of its own (spec/30_encoding.md R67),
and the startup self-check of a table entry (R66). -/

namespace Sys2Proof

/-- Every instruction is well formed but the prefix entry: a decoder that meets 0xCB returns the extended entry of
the next byte (R67, spec/46_system.md R173). -/
def Instr.wellFormed : Instr → Bool
  | .prefix_cb _ => false
  | _ => true

/-- At most one argument of an entry carries immediate bytes (R65, R66). -/
def Record.onePayload (r : Record) : Bool :=
  r.lhs.payloadSize == 0 || r.rhs.payloadSize == 0

/-- A base-table entry's length is its opcode byte plus its immediate bytes (R66). -/
def Record.baseLength (r : Record) : Bool :=
  r.length == 1 + r.lhs.payloadSize + r.rhs.payloadSize

/-- An extended-table entry has length 2, a register or (HL) on the left, and nothing or a literal on the
right (R66). -/
def Record.extendedShape (r : Record) : Bool :=
  r.length == 2 &&
  (match r.lhs with
    | .r8 _ | .ptr .hl => true
    | _ => false) &&
  (match r.rhs with
    | .none | .lit _ => true
    | _ => false)

/-- The self-check of a table entry (R66): the source asks for it when the tables are built. -/
def Record.wellFormed (r : Record) : Bool :=
  match r.opcode with
  | .base _ => r.onePayload && r.baseLength
  | .cb _ => r.extendedShape

end Sys2Proof
end

