-- ==== Sys2Proof/Decode.lean ====
section
/-! DEFINITION. The decode tables of spec/30_encoding.md and spec/opcode_table.json: the record of each entry, the
two opcode grids (R68, R69), the decoder (spec/40_engine.md R77, R78), the encoder, and the numbering of an
instruction's bits that the opcode table uses. -/

namespace Sys2Proof

/-! ### The notation of spec/00_scope.md R8 and R9 -/

/-- `hi(v) = v[15:8]` (R8). -/
def hi (v : Word) : Byte := v.extractLsb' 8 8

/-- `lo(v) = v[7:0]` (R8). -/
def lo (v : Word) : Byte := v.extractLsb' 0 8

/-- `cat(h, l) = (h << 8) | l` (R8). -/
def cat (h l : Byte) : Word := h ++ l

/-- `sext_16(v)`: `v` if `v[7] = 0`, else `v + 0xFF00` (R9). -/
def sext16 (v : Byte) : Word := v.signExtend 16

/-- `zext_16(v)` (R9). -/
def zext16 (v : Byte) : Word := v.setWidth 16

/-- A boolean as a number: 1 for true, 0 for false (R9). -/
def bit (b : Bool) : Nat := if b then 1 else 0

/-! ### The table -/

/-- The record that decoding gives for each instruction: the row of spec/opcode_table.json with its immediate
filled in (R75, R76). -/
def Instr.record : Instr → Record
  | .nop => ⟨.base 0x00, .nop, .none, .none, 1, 1, 0⟩
  | .ld_bc_d16 w => ⟨.base 0x01, .ld, .r16 .bc, .imm16 w, 3, 3, 0⟩
  | .ld_mbc_a => ⟨.base 0x02, .ld, .ptr .bc, .r8 .a, 1, 2, 0⟩
  | .inc_bc => ⟨.base 0x03, .inc, .r16 .bc, .none, 1, 2, 0⟩
  | .inc_b => ⟨.base 0x04, .inc, .r8 .b, .none, 1, 1, 0⟩
  | .dec_b => ⟨.base 0x05, .dec, .r8 .b, .none, 1, 1, 0⟩
  | .ld_b_d8 n => ⟨.base 0x06, .ld, .r8 .b, .imm8 n, 2, 2, 0⟩
  | .rlca => ⟨.base 0x07, .rlca, .none, .none, 1, 1, 0⟩
  | .ld_ma16_sp w => ⟨.base 0x08, .ld, .ptrImm16 w, .r16 .sp, 3, 5, 0⟩
  | .add_hl_bc => ⟨.base 0x09, .add, .r16 .hl, .r16 .bc, 1, 2, 0⟩
  | .ld_a_mbc => ⟨.base 0x0A, .ld, .r8 .a, .ptr .bc, 1, 2, 0⟩
  | .dec_bc => ⟨.base 0x0B, .dec, .r16 .bc, .none, 1, 2, 0⟩
  | .inc_c => ⟨.base 0x0C, .inc, .r8 .c, .none, 1, 1, 0⟩
  | .dec_c => ⟨.base 0x0D, .dec, .r8 .c, .none, 1, 1, 0⟩
  | .ld_c_d8 n => ⟨.base 0x0E, .ld, .r8 .c, .imm8 n, 2, 2, 0⟩
  | .rrca => ⟨.base 0x0F, .rrca, .none, .none, 1, 1, 0⟩
  | .stop_d8 n => ⟨.base 0x10, .stop, .imm8 n, .none, 2, 1, 0⟩
  | .ld_de_d16 w => ⟨.base 0x11, .ld, .r16 .de, .imm16 w, 3, 3, 0⟩
  | .ld_mde_a => ⟨.base 0x12, .ld, .ptr .de, .r8 .a, 1, 2, 0⟩
  | .inc_de => ⟨.base 0x13, .inc, .r16 .de, .none, 1, 2, 0⟩
  | .inc_d => ⟨.base 0x14, .inc, .r8 .d, .none, 1, 1, 0⟩
  | .dec_d => ⟨.base 0x15, .dec, .r8 .d, .none, 1, 1, 0⟩
  | .ld_d_d8 n => ⟨.base 0x16, .ld, .r8 .d, .imm8 n, 2, 2, 0⟩
  | .rla => ⟨.base 0x17, .rla, .none, .none, 1, 1, 0⟩
  | .jr_e8 n => ⟨.base 0x18, .jr, .cond .none, .simm8 n, 2, 3, 0⟩
  | .add_hl_de => ⟨.base 0x19, .add, .r16 .hl, .r16 .de, 1, 2, 0⟩
  | .ld_a_mde => ⟨.base 0x1A, .ld, .r8 .a, .ptr .de, 1, 2, 0⟩
  | .dec_de => ⟨.base 0x1B, .dec, .r16 .de, .none, 1, 2, 0⟩
  | .inc_e => ⟨.base 0x1C, .inc, .r8 .e, .none, 1, 1, 0⟩
  | .dec_e => ⟨.base 0x1D, .dec, .r8 .e, .none, 1, 1, 0⟩
  | .ld_e_d8 n => ⟨.base 0x1E, .ld, .r8 .e, .imm8 n, 2, 2, 0⟩
  | .rra => ⟨.base 0x1F, .rra, .none, .none, 1, 1, 0⟩
  | .jr_nz_e8 n => ⟨.base 0x20, .jr, .cond .nzero, .simm8 n, 2, 2, 1⟩
  | .ld_hl_d16 w => ⟨.base 0x21, .ld, .r16 .hl, .imm16 w, 3, 3, 0⟩
  | .ld_mhli_a => ⟨.base 0x22, .ld, .ptrInc, .r8 .a, 1, 2, 0⟩
  | .inc_hl => ⟨.base 0x23, .inc, .r16 .hl, .none, 1, 2, 0⟩
  | .inc_h => ⟨.base 0x24, .inc, .r8 .h, .none, 1, 1, 0⟩
  | .dec_h => ⟨.base 0x25, .dec, .r8 .h, .none, 1, 1, 0⟩
  | .ld_h_d8 n => ⟨.base 0x26, .ld, .r8 .h, .imm8 n, 2, 2, 0⟩
  | .daa => ⟨.base 0x27, .daa, .none, .none, 1, 1, 0⟩
  | .jr_z_e8 n => ⟨.base 0x28, .jr, .cond .zero, .simm8 n, 2, 2, 1⟩
  | .add_hl_hl => ⟨.base 0x29, .add, .r16 .hl, .r16 .hl, 1, 2, 0⟩
  | .ld_a_mhli => ⟨.base 0x2A, .ld, .r8 .a, .ptrInc, 1, 2, 0⟩
  | .dec_hl => ⟨.base 0x2B, .dec, .r16 .hl, .none, 1, 2, 0⟩
  | .inc_l => ⟨.base 0x2C, .inc, .r8 .l, .none, 1, 1, 0⟩
  | .dec_l => ⟨.base 0x2D, .dec, .r8 .l, .none, 1, 1, 0⟩
  | .ld_l_d8 n => ⟨.base 0x2E, .ld, .r8 .l, .imm8 n, 2, 2, 0⟩
  | .cpl => ⟨.base 0x2F, .cpl, .none, .none, 1, 1, 0⟩
  | .jr_nc_e8 n => ⟨.base 0x30, .jr, .cond .ncarry, .simm8 n, 2, 2, 1⟩
  | .ld_sp_d16 w => ⟨.base 0x31, .ld, .r16 .sp, .imm16 w, 3, 3, 0⟩
  | .ld_mhld_a => ⟨.base 0x32, .ld, .ptrDec, .r8 .a, 1, 2, 0⟩
  | .inc_sp => ⟨.base 0x33, .inc, .r16 .sp, .none, 1, 2, 0⟩
  | .inc_mhl => ⟨.base 0x34, .inc, .ptr .hl, .none, 1, 3, 0⟩
  | .dec_mhl => ⟨.base 0x35, .dec, .ptr .hl, .none, 1, 3, 0⟩
  | .ld_mhl_d8 n => ⟨.base 0x36, .ld, .ptr .hl, .imm8 n, 2, 3, 0⟩
  | .scf => ⟨.base 0x37, .scf, .none, .none, 1, 1, 0⟩
  | .jr_c_e8 n => ⟨.base 0x38, .jr, .cond .carry, .simm8 n, 2, 2, 1⟩
  | .add_hl_sp => ⟨.base 0x39, .add, .r16 .hl, .r16 .sp, 1, 2, 0⟩
  | .ld_a_mhld => ⟨.base 0x3A, .ld, .r8 .a, .ptrDec, 1, 2, 0⟩
  | .dec_sp => ⟨.base 0x3B, .dec, .r16 .sp, .none, 1, 2, 0⟩
  | .inc_a => ⟨.base 0x3C, .inc, .r8 .a, .none, 1, 1, 0⟩
  | .dec_a => ⟨.base 0x3D, .dec, .r8 .a, .none, 1, 1, 0⟩
  | .ld_a_d8 n => ⟨.base 0x3E, .ld, .r8 .a, .imm8 n, 2, 2, 0⟩
  | .ccf => ⟨.base 0x3F, .ccf, .none, .none, 1, 1, 0⟩
  | .ld_b_b => ⟨.base 0x40, .ld, .r8 .b, .r8 .b, 1, 1, 0⟩
  | .ld_b_c => ⟨.base 0x41, .ld, .r8 .b, .r8 .c, 1, 1, 0⟩
  | .ld_b_d => ⟨.base 0x42, .ld, .r8 .b, .r8 .d, 1, 1, 0⟩
  | .ld_b_e => ⟨.base 0x43, .ld, .r8 .b, .r8 .e, 1, 1, 0⟩
  | .ld_b_h => ⟨.base 0x44, .ld, .r8 .b, .r8 .h, 1, 1, 0⟩
  | .ld_b_l => ⟨.base 0x45, .ld, .r8 .b, .r8 .l, 1, 1, 0⟩
  | .ld_b_mhl => ⟨.base 0x46, .ld, .r8 .b, .ptr .hl, 1, 2, 0⟩
  | .ld_b_a => ⟨.base 0x47, .ld, .r8 .b, .r8 .a, 1, 1, 0⟩
  | .ld_c_b => ⟨.base 0x48, .ld, .r8 .c, .r8 .b, 1, 1, 0⟩
  | .ld_c_c => ⟨.base 0x49, .ld, .r8 .c, .r8 .c, 1, 1, 0⟩
  | .ld_c_d => ⟨.base 0x4A, .ld, .r8 .c, .r8 .d, 1, 1, 0⟩
  | .ld_c_e => ⟨.base 0x4B, .ld, .r8 .c, .r8 .e, 1, 1, 0⟩
  | .ld_c_h => ⟨.base 0x4C, .ld, .r8 .c, .r8 .h, 1, 1, 0⟩
  | .ld_c_l => ⟨.base 0x4D, .ld, .r8 .c, .r8 .l, 1, 1, 0⟩
  | .ld_c_mhl => ⟨.base 0x4E, .ld, .r8 .c, .ptr .hl, 1, 2, 0⟩
  | .ld_c_a => ⟨.base 0x4F, .ld, .r8 .c, .r8 .a, 1, 1, 0⟩
  | .ld_d_b => ⟨.base 0x50, .ld, .r8 .d, .r8 .b, 1, 1, 0⟩
  | .ld_d_c => ⟨.base 0x51, .ld, .r8 .d, .r8 .c, 1, 1, 0⟩
  | .ld_d_d => ⟨.base 0x52, .ld, .r8 .d, .r8 .d, 1, 1, 0⟩
  | .ld_d_e => ⟨.base 0x53, .ld, .r8 .d, .r8 .e, 1, 1, 0⟩
  | .ld_d_h => ⟨.base 0x54, .ld, .r8 .d, .r8 .h, 1, 1, 0⟩
  | .ld_d_l => ⟨.base 0x55, .ld, .r8 .d, .r8 .l, 1, 1, 0⟩
  | .ld_d_mhl => ⟨.base 0x56, .ld, .r8 .d, .ptr .hl, 1, 2, 0⟩
  | .ld_d_a => ⟨.base 0x57, .ld, .r8 .d, .r8 .a, 1, 1, 0⟩
  | .ld_e_b => ⟨.base 0x58, .ld, .r8 .e, .r8 .b, 1, 1, 0⟩
  | .ld_e_c => ⟨.base 0x59, .ld, .r8 .e, .r8 .c, 1, 1, 0⟩
  | .ld_e_d => ⟨.base 0x5A, .ld, .r8 .e, .r8 .d, 1, 1, 0⟩
  | .ld_e_e => ⟨.base 0x5B, .ld, .r8 .e, .r8 .e, 1, 1, 0⟩
  | .ld_e_h => ⟨.base 0x5C, .ld, .r8 .e, .r8 .h, 1, 1, 0⟩
  | .ld_e_l => ⟨.base 0x5D, .ld, .r8 .e, .r8 .l, 1, 1, 0⟩
  | .ld_e_mhl => ⟨.base 0x5E, .ld, .r8 .e, .ptr .hl, 1, 2, 0⟩
  | .ld_e_a => ⟨.base 0x5F, .ld, .r8 .e, .r8 .a, 1, 1, 0⟩
  | .ld_h_b => ⟨.base 0x60, .ld, .r8 .h, .r8 .b, 1, 1, 0⟩
  | .ld_h_c => ⟨.base 0x61, .ld, .r8 .h, .r8 .c, 1, 1, 0⟩
  | .ld_h_d => ⟨.base 0x62, .ld, .r8 .h, .r8 .d, 1, 1, 0⟩
  | .ld_h_e => ⟨.base 0x63, .ld, .r8 .h, .r8 .e, 1, 1, 0⟩
  | .ld_h_h => ⟨.base 0x64, .ld, .r8 .h, .r8 .h, 1, 1, 0⟩
  | .ld_h_l => ⟨.base 0x65, .ld, .r8 .h, .r8 .l, 1, 1, 0⟩
  | .ld_h_mhl => ⟨.base 0x66, .ld, .r8 .h, .ptr .hl, 1, 2, 0⟩
  | .ld_h_a => ⟨.base 0x67, .ld, .r8 .h, .r8 .a, 1, 1, 0⟩
  | .ld_l_b => ⟨.base 0x68, .ld, .r8 .l, .r8 .b, 1, 1, 0⟩
  | .ld_l_c => ⟨.base 0x69, .ld, .r8 .l, .r8 .c, 1, 1, 0⟩
  | .ld_l_d => ⟨.base 0x6A, .ld, .r8 .l, .r8 .d, 1, 1, 0⟩
  | .ld_l_e => ⟨.base 0x6B, .ld, .r8 .l, .r8 .e, 1, 1, 0⟩
  | .ld_l_h => ⟨.base 0x6C, .ld, .r8 .l, .r8 .h, 1, 1, 0⟩
  | .ld_l_l => ⟨.base 0x6D, .ld, .r8 .l, .r8 .l, 1, 1, 0⟩
  | .ld_l_mhl => ⟨.base 0x6E, .ld, .r8 .l, .ptr .hl, 1, 2, 0⟩
  | .ld_l_a => ⟨.base 0x6F, .ld, .r8 .l, .r8 .a, 1, 1, 0⟩
  | .ld_mhl_b => ⟨.base 0x70, .ld, .ptr .hl, .r8 .b, 1, 2, 0⟩
  | .ld_mhl_c => ⟨.base 0x71, .ld, .ptr .hl, .r8 .c, 1, 2, 0⟩
  | .ld_mhl_d => ⟨.base 0x72, .ld, .ptr .hl, .r8 .d, 1, 2, 0⟩
  | .ld_mhl_e => ⟨.base 0x73, .ld, .ptr .hl, .r8 .e, 1, 2, 0⟩
  | .ld_mhl_h => ⟨.base 0x74, .ld, .ptr .hl, .r8 .h, 1, 2, 0⟩
  | .ld_mhl_l => ⟨.base 0x75, .ld, .ptr .hl, .r8 .l, 1, 2, 0⟩
  | .halt => ⟨.base 0x76, .halt, .none, .none, 1, 1, 0⟩
  | .ld_mhl_a => ⟨.base 0x77, .ld, .ptr .hl, .r8 .a, 1, 2, 0⟩
  | .ld_a_b => ⟨.base 0x78, .ld, .r8 .a, .r8 .b, 1, 1, 0⟩
  | .ld_a_c => ⟨.base 0x79, .ld, .r8 .a, .r8 .c, 1, 1, 0⟩
  | .ld_a_d => ⟨.base 0x7A, .ld, .r8 .a, .r8 .d, 1, 1, 0⟩
  | .ld_a_e => ⟨.base 0x7B, .ld, .r8 .a, .r8 .e, 1, 1, 0⟩
  | .ld_a_h => ⟨.base 0x7C, .ld, .r8 .a, .r8 .h, 1, 1, 0⟩
  | .ld_a_l => ⟨.base 0x7D, .ld, .r8 .a, .r8 .l, 1, 1, 0⟩
  | .ld_a_mhl => ⟨.base 0x7E, .ld, .r8 .a, .ptr .hl, 1, 2, 0⟩
  | .ld_a_a => ⟨.base 0x7F, .ld, .r8 .a, .r8 .a, 1, 1, 0⟩
  | .add_a_b => ⟨.base 0x80, .add, .r8 .a, .r8 .b, 1, 1, 0⟩
  | .add_a_c => ⟨.base 0x81, .add, .r8 .a, .r8 .c, 1, 1, 0⟩
  | .add_a_d => ⟨.base 0x82, .add, .r8 .a, .r8 .d, 1, 1, 0⟩
  | .add_a_e => ⟨.base 0x83, .add, .r8 .a, .r8 .e, 1, 1, 0⟩
  | .add_a_h => ⟨.base 0x84, .add, .r8 .a, .r8 .h, 1, 1, 0⟩
  | .add_a_l => ⟨.base 0x85, .add, .r8 .a, .r8 .l, 1, 1, 0⟩
  | .add_a_mhl => ⟨.base 0x86, .add, .r8 .a, .ptr .hl, 1, 2, 0⟩
  | .add_a_a => ⟨.base 0x87, .add, .r8 .a, .r8 .a, 1, 1, 0⟩
  | .adc_a_b => ⟨.base 0x88, .adc, .r8 .a, .r8 .b, 1, 1, 0⟩
  | .adc_a_c => ⟨.base 0x89, .adc, .r8 .a, .r8 .c, 1, 1, 0⟩
  | .adc_a_d => ⟨.base 0x8A, .adc, .r8 .a, .r8 .d, 1, 1, 0⟩
  | .adc_a_e => ⟨.base 0x8B, .adc, .r8 .a, .r8 .e, 1, 1, 0⟩
  | .adc_a_h => ⟨.base 0x8C, .adc, .r8 .a, .r8 .h, 1, 1, 0⟩
  | .adc_a_l => ⟨.base 0x8D, .adc, .r8 .a, .r8 .l, 1, 1, 0⟩
  | .adc_a_mhl => ⟨.base 0x8E, .adc, .r8 .a, .ptr .hl, 1, 2, 0⟩
  | .adc_a_a => ⟨.base 0x8F, .adc, .r8 .a, .r8 .a, 1, 1, 0⟩
  | .sub_a_b => ⟨.base 0x90, .sub, .r8 .a, .r8 .b, 1, 1, 0⟩
  | .sub_a_c => ⟨.base 0x91, .sub, .r8 .a, .r8 .c, 1, 1, 0⟩
  | .sub_a_d => ⟨.base 0x92, .sub, .r8 .a, .r8 .d, 1, 1, 0⟩
  | .sub_a_e => ⟨.base 0x93, .sub, .r8 .a, .r8 .e, 1, 1, 0⟩
  | .sub_a_h => ⟨.base 0x94, .sub, .r8 .a, .r8 .h, 1, 1, 0⟩
  | .sub_a_l => ⟨.base 0x95, .sub, .r8 .a, .r8 .l, 1, 1, 0⟩
  | .sub_a_mhl => ⟨.base 0x96, .sub, .r8 .a, .ptr .hl, 1, 2, 0⟩
  | .sub_a_a => ⟨.base 0x97, .sub, .r8 .a, .r8 .a, 1, 1, 0⟩
  | .sbc_a_b => ⟨.base 0x98, .sbc, .r8 .a, .r8 .b, 1, 1, 0⟩
  | .sbc_a_c => ⟨.base 0x99, .sbc, .r8 .a, .r8 .c, 1, 1, 0⟩
  | .sbc_a_d => ⟨.base 0x9A, .sbc, .r8 .a, .r8 .d, 1, 1, 0⟩
  | .sbc_a_e => ⟨.base 0x9B, .sbc, .r8 .a, .r8 .e, 1, 1, 0⟩
  | .sbc_a_h => ⟨.base 0x9C, .sbc, .r8 .a, .r8 .h, 1, 1, 0⟩
  | .sbc_a_l => ⟨.base 0x9D, .sbc, .r8 .a, .r8 .l, 1, 1, 0⟩
  | .sbc_a_mhl => ⟨.base 0x9E, .sbc, .r8 .a, .ptr .hl, 1, 2, 0⟩
  | .sbc_a_a => ⟨.base 0x9F, .sbc, .r8 .a, .r8 .a, 1, 1, 0⟩
  | .and_a_b => ⟨.base 0xA0, .and, .r8 .a, .r8 .b, 1, 1, 0⟩
  | .and_a_c => ⟨.base 0xA1, .and, .r8 .a, .r8 .c, 1, 1, 0⟩
  | .and_a_d => ⟨.base 0xA2, .and, .r8 .a, .r8 .d, 1, 1, 0⟩
  | .and_a_e => ⟨.base 0xA3, .and, .r8 .a, .r8 .e, 1, 1, 0⟩
  | .and_a_h => ⟨.base 0xA4, .and, .r8 .a, .r8 .h, 1, 1, 0⟩
  | .and_a_l => ⟨.base 0xA5, .and, .r8 .a, .r8 .l, 1, 1, 0⟩
  | .and_a_mhl => ⟨.base 0xA6, .and, .r8 .a, .ptr .hl, 1, 2, 0⟩
  | .and_a_a => ⟨.base 0xA7, .and, .r8 .a, .r8 .a, 1, 1, 0⟩
  | .xor_a_b => ⟨.base 0xA8, .xor, .r8 .a, .r8 .b, 1, 1, 0⟩
  | .xor_a_c => ⟨.base 0xA9, .xor, .r8 .a, .r8 .c, 1, 1, 0⟩
  | .xor_a_d => ⟨.base 0xAA, .xor, .r8 .a, .r8 .d, 1, 1, 0⟩
  | .xor_a_e => ⟨.base 0xAB, .xor, .r8 .a, .r8 .e, 1, 1, 0⟩
  | .xor_a_h => ⟨.base 0xAC, .xor, .r8 .a, .r8 .h, 1, 1, 0⟩
  | .xor_a_l => ⟨.base 0xAD, .xor, .r8 .a, .r8 .l, 1, 1, 0⟩
  | .xor_a_mhl => ⟨.base 0xAE, .xor, .r8 .a, .ptr .hl, 1, 2, 0⟩
  | .xor_a_a => ⟨.base 0xAF, .xor, .r8 .a, .r8 .a, 1, 1, 0⟩
  | .or_a_b => ⟨.base 0xB0, .or, .r8 .a, .r8 .b, 1, 1, 0⟩
  | .or_a_c => ⟨.base 0xB1, .or, .r8 .a, .r8 .c, 1, 1, 0⟩
  | .or_a_d => ⟨.base 0xB2, .or, .r8 .a, .r8 .d, 1, 1, 0⟩
  | .or_a_e => ⟨.base 0xB3, .or, .r8 .a, .r8 .e, 1, 1, 0⟩
  | .or_a_h => ⟨.base 0xB4, .or, .r8 .a, .r8 .h, 1, 1, 0⟩
  | .or_a_l => ⟨.base 0xB5, .or, .r8 .a, .r8 .l, 1, 1, 0⟩
  | .or_a_mhl => ⟨.base 0xB6, .or, .r8 .a, .ptr .hl, 1, 2, 0⟩
  | .or_a_a => ⟨.base 0xB7, .or, .r8 .a, .r8 .a, 1, 1, 0⟩
  | .cp_a_b => ⟨.base 0xB8, .cp, .r8 .a, .r8 .b, 1, 1, 0⟩
  | .cp_a_c => ⟨.base 0xB9, .cp, .r8 .a, .r8 .c, 1, 1, 0⟩
  | .cp_a_d => ⟨.base 0xBA, .cp, .r8 .a, .r8 .d, 1, 1, 0⟩
  | .cp_a_e => ⟨.base 0xBB, .cp, .r8 .a, .r8 .e, 1, 1, 0⟩
  | .cp_a_h => ⟨.base 0xBC, .cp, .r8 .a, .r8 .h, 1, 1, 0⟩
  | .cp_a_l => ⟨.base 0xBD, .cp, .r8 .a, .r8 .l, 1, 1, 0⟩
  | .cp_a_mhl => ⟨.base 0xBE, .cp, .r8 .a, .ptr .hl, 1, 2, 0⟩
  | .cp_a_a => ⟨.base 0xBF, .cp, .r8 .a, .r8 .a, 1, 1, 0⟩
  | .ret_nz => ⟨.base 0xC0, .ret, .cond .nzero, .none, 1, 2, 3⟩
  | .pop_bc => ⟨.base 0xC1, .pop, .r16 .bc, .none, 1, 3, 0⟩
  | .jp_nz_a16 w => ⟨.base 0xC2, .jp, .cond .nzero, .imm16 w, 3, 3, 1⟩
  | .jp_a16 w => ⟨.base 0xC3, .jp, .cond .none, .imm16 w, 3, 4, 0⟩
  | .call_nz_a16 w => ⟨.base 0xC4, .call, .cond .nzero, .imm16 w, 3, 3, 3⟩
  | .push_bc => ⟨.base 0xC5, .push, .r16 .bc, .none, 1, 4, 0⟩
  | .add_a_d8 n => ⟨.base 0xC6, .add, .r8 .a, .imm8 n, 2, 2, 0⟩
  | .rst_00 => ⟨.base 0xC7, .rst, .lit 0x00, .none, 1, 4, 0⟩
  | .ret_z => ⟨.base 0xC8, .ret, .cond .zero, .none, 1, 2, 3⟩
  | .ret => ⟨.base 0xC9, .ret, .cond .none, .none, 1, 4, 0⟩
  | .jp_z_a16 w => ⟨.base 0xCA, .jp, .cond .zero, .imm16 w, 3, 3, 1⟩
  | .prefix_cb _ => ⟨.base 0xCB, .prefixCb, .none, .none, 2, 0, 0⟩
  | .call_z_a16 w => ⟨.base 0xCC, .call, .cond .zero, .imm16 w, 3, 3, 3⟩
  | .call_a16 w => ⟨.base 0xCD, .call, .cond .none, .imm16 w, 3, 6, 0⟩
  | .adc_a_d8 n => ⟨.base 0xCE, .adc, .r8 .a, .imm8 n, 2, 2, 0⟩
  | .rst_08 => ⟨.base 0xCF, .rst, .lit 0x08, .none, 1, 4, 0⟩
  | .ret_nc => ⟨.base 0xD0, .ret, .cond .ncarry, .none, 1, 2, 3⟩
  | .pop_de => ⟨.base 0xD1, .pop, .r16 .de, .none, 1, 3, 0⟩
  | .jp_nc_a16 w => ⟨.base 0xD2, .jp, .cond .ncarry, .imm16 w, 3, 3, 1⟩
  | .illegal_d3 => ⟨.base 0xD3, .illegal, .none, .none, 1, Config.illegalCycles, 0⟩
  | .call_nc_a16 w => ⟨.base 0xD4, .call, .cond .ncarry, .imm16 w, 3, 3, 3⟩
  | .push_de => ⟨.base 0xD5, .push, .r16 .de, .none, 1, 4, 0⟩
  | .sub_a_d8 n => ⟨.base 0xD6, .sub, .r8 .a, .imm8 n, 2, 2, 0⟩
  | .rst_10 => ⟨.base 0xD7, .rst, .lit 0x10, .none, 1, 4, 0⟩
  | .ret_c => ⟨.base 0xD8, .ret, .cond .carry, .none, 1, 2, 3⟩
  | .reti => ⟨.base 0xD9, .reti, .none, .none, 1, 4, 0⟩
  | .jp_c_a16 w => ⟨.base 0xDA, .jp, .cond .carry, .imm16 w, 3, 3, 1⟩
  | .illegal_db => ⟨.base 0xDB, .illegal, .none, .none, 1, Config.illegalCycles, 0⟩
  | .call_c_a16 w => ⟨.base 0xDC, .call, .cond .carry, .imm16 w, 3, 3, 3⟩
  | .illegal_dd => ⟨.base 0xDD, .illegal, .none, .none, 1, Config.illegalCycles, 0⟩
  | .sbc_a_d8 n => ⟨.base 0xDE, .sbc, .r8 .a, .imm8 n, 2, 2, 0⟩
  | .rst_18 => ⟨.base 0xDF, .rst, .lit 0x18, .none, 1, 4, 0⟩
  | .ldh_ma8_a n => ⟨.base 0xE0, .ld, .ioImm8 n, .r8 .a, 2, 3, 0⟩
  | .pop_hl => ⟨.base 0xE1, .pop, .r16 .hl, .none, 1, 3, 0⟩
  | .ld_mc_a => ⟨.base 0xE2, .ld, .ioC, .r8 .a, 1, 2, 0⟩
  | .illegal_e3 => ⟨.base 0xE3, .illegal, .none, .none, 1, Config.illegalCycles, 0⟩
  | .illegal_e4 => ⟨.base 0xE4, .illegal, .none, .none, 1, Config.illegalCycles, 0⟩
  | .push_hl => ⟨.base 0xE5, .push, .r16 .hl, .none, 1, 4, 0⟩
  | .and_a_d8 n => ⟨.base 0xE6, .and, .r8 .a, .imm8 n, 2, 2, 0⟩
  | .rst_20 => ⟨.base 0xE7, .rst, .lit 0x20, .none, 1, 4, 0⟩
  | .add_sp_e8 n => ⟨.base 0xE8, .add, .r16 .sp, .simm8 n, 2, 4, 0⟩
  | .jp_hl => ⟨.base 0xE9, .jp, .r16 .hl, .none, 1, 1, 0⟩
  | .ld_ma16_a w => ⟨.base 0xEA, .ld, .ptrImm16 w, .r8 .a, 3, 4, 0⟩
  | .illegal_eb => ⟨.base 0xEB, .illegal, .none, .none, 1, Config.illegalCycles, 0⟩
  | .illegal_ec => ⟨.base 0xEC, .illegal, .none, .none, 1, Config.illegalCycles, 0⟩
  | .illegal_ed => ⟨.base 0xED, .illegal, .none, .none, 1, Config.illegalCycles, 0⟩
  | .xor_a_d8 n => ⟨.base 0xEE, .xor, .r8 .a, .imm8 n, 2, 2, 0⟩
  | .rst_28 => ⟨.base 0xEF, .rst, .lit 0x28, .none, 1, 4, 0⟩
  | .ldh_a_ma8 n => ⟨.base 0xF0, .ld, .r8 .a, .ioImm8 n, 2, 3, 0⟩
  | .pop_af => ⟨.base 0xF1, .pop, .r16 .af, .none, 1, 3, 0⟩
  | .ld_a_mc => ⟨.base 0xF2, .ld, .r8 .a, .ioC, 1, 2, 0⟩
  | .di => ⟨.base 0xF3, .di, .none, .none, 1, 1, 0⟩
  | .illegal_f4 => ⟨.base 0xF4, .illegal, .none, .none, 1, Config.illegalCycles, 0⟩
  | .push_af => ⟨.base 0xF5, .push, .r16 .af, .none, 1, 4, 0⟩
  | .or_a_d8 n => ⟨.base 0xF6, .or, .r8 .a, .imm8 n, 2, 2, 0⟩
  | .rst_30 => ⟨.base 0xF7, .rst, .lit 0x30, .none, 1, 4, 0⟩
  | .ld_hl_spe8 n => ⟨.base 0xF8, .ld, .r16 .hl, .spOffset n, 2, 3, 0⟩
  | .ld_sp_hl => ⟨.base 0xF9, .ld, .r16 .sp, .r16 .hl, 1, 2, 0⟩
  | .ld_a_ma16 w => ⟨.base 0xFA, .ld, .r8 .a, .ptrImm16 w, 3, 4, 0⟩
  | .ei => ⟨.base 0xFB, .ei, .none, .none, 1, 1, 0⟩
  | .illegal_fc => ⟨.base 0xFC, .illegal, .none, .none, 1, Config.illegalCycles, 0⟩
  | .illegal_fd => ⟨.base 0xFD, .illegal, .none, .none, 1, Config.illegalCycles, 0⟩
  | .cp_a_d8 n => ⟨.base 0xFE, .cp, .r8 .a, .imm8 n, 2, 2, 0⟩
  | .rst_38 => ⟨.base 0xFF, .rst, .lit 0x38, .none, 1, 4, 0⟩
  | .rlc_b => ⟨.cb 0x00, .rlc, .r8 .b, .none, 2, 2, 0⟩
  | .rlc_c => ⟨.cb 0x01, .rlc, .r8 .c, .none, 2, 2, 0⟩
  | .rlc_d => ⟨.cb 0x02, .rlc, .r8 .d, .none, 2, 2, 0⟩
  | .rlc_e => ⟨.cb 0x03, .rlc, .r8 .e, .none, 2, 2, 0⟩
  | .rlc_h => ⟨.cb 0x04, .rlc, .r8 .h, .none, 2, 2, 0⟩
  | .rlc_l => ⟨.cb 0x05, .rlc, .r8 .l, .none, 2, 2, 0⟩
  | .rlc_mhl => ⟨.cb 0x06, .rlc, .ptr .hl, .none, 2, 4, 0⟩
  | .rlc_a => ⟨.cb 0x07, .rlc, .r8 .a, .none, 2, 2, 0⟩
  | .rrc_b => ⟨.cb 0x08, .rrc, .r8 .b, .none, 2, 2, 0⟩
  | .rrc_c => ⟨.cb 0x09, .rrc, .r8 .c, .none, 2, 2, 0⟩
  | .rrc_d => ⟨.cb 0x0A, .rrc, .r8 .d, .none, 2, 2, 0⟩
  | .rrc_e => ⟨.cb 0x0B, .rrc, .r8 .e, .none, 2, 2, 0⟩
  | .rrc_h => ⟨.cb 0x0C, .rrc, .r8 .h, .none, 2, 2, 0⟩
  | .rrc_l => ⟨.cb 0x0D, .rrc, .r8 .l, .none, 2, 2, 0⟩
  | .rrc_mhl => ⟨.cb 0x0E, .rrc, .ptr .hl, .none, 2, 4, 0⟩
  | .rrc_a => ⟨.cb 0x0F, .rrc, .r8 .a, .none, 2, 2, 0⟩
  | .rl_b => ⟨.cb 0x10, .rl, .r8 .b, .none, 2, 2, 0⟩
  | .rl_c => ⟨.cb 0x11, .rl, .r8 .c, .none, 2, 2, 0⟩
  | .rl_d => ⟨.cb 0x12, .rl, .r8 .d, .none, 2, 2, 0⟩
  | .rl_e => ⟨.cb 0x13, .rl, .r8 .e, .none, 2, 2, 0⟩
  | .rl_h => ⟨.cb 0x14, .rl, .r8 .h, .none, 2, 2, 0⟩
  | .rl_l => ⟨.cb 0x15, .rl, .r8 .l, .none, 2, 2, 0⟩
  | .rl_mhl => ⟨.cb 0x16, .rl, .ptr .hl, .none, 2, 4, 0⟩
  | .rl_a => ⟨.cb 0x17, .rl, .r8 .a, .none, 2, 2, 0⟩
  | .rr_b => ⟨.cb 0x18, .rr, .r8 .b, .none, 2, 2, 0⟩
  | .rr_c => ⟨.cb 0x19, .rr, .r8 .c, .none, 2, 2, 0⟩
  | .rr_d => ⟨.cb 0x1A, .rr, .r8 .d, .none, 2, 2, 0⟩
  | .rr_e => ⟨.cb 0x1B, .rr, .r8 .e, .none, 2, 2, 0⟩
  | .rr_h => ⟨.cb 0x1C, .rr, .r8 .h, .none, 2, 2, 0⟩
  | .rr_l => ⟨.cb 0x1D, .rr, .r8 .l, .none, 2, 2, 0⟩
  | .rr_mhl => ⟨.cb 0x1E, .rr, .ptr .hl, .none, 2, 4, 0⟩
  | .rr_a => ⟨.cb 0x1F, .rr, .r8 .a, .none, 2, 2, 0⟩
  | .sla_b => ⟨.cb 0x20, .sla, .r8 .b, .none, 2, 2, 0⟩
  | .sla_c => ⟨.cb 0x21, .sla, .r8 .c, .none, 2, 2, 0⟩
  | .sla_d => ⟨.cb 0x22, .sla, .r8 .d, .none, 2, 2, 0⟩
  | .sla_e => ⟨.cb 0x23, .sla, .r8 .e, .none, 2, 2, 0⟩
  | .sla_h => ⟨.cb 0x24, .sla, .r8 .h, .none, 2, 2, 0⟩
  | .sla_l => ⟨.cb 0x25, .sla, .r8 .l, .none, 2, 2, 0⟩
  | .sla_mhl => ⟨.cb 0x26, .sla, .ptr .hl, .none, 2, 4, 0⟩
  | .sla_a => ⟨.cb 0x27, .sla, .r8 .a, .none, 2, 2, 0⟩
  | .sra_b => ⟨.cb 0x28, .sra, .r8 .b, .none, 2, 2, 0⟩
  | .sra_c => ⟨.cb 0x29, .sra, .r8 .c, .none, 2, 2, 0⟩
  | .sra_d => ⟨.cb 0x2A, .sra, .r8 .d, .none, 2, 2, 0⟩
  | .sra_e => ⟨.cb 0x2B, .sra, .r8 .e, .none, 2, 2, 0⟩
  | .sra_h => ⟨.cb 0x2C, .sra, .r8 .h, .none, 2, 2, 0⟩
  | .sra_l => ⟨.cb 0x2D, .sra, .r8 .l, .none, 2, 2, 0⟩
  | .sra_mhl => ⟨.cb 0x2E, .sra, .ptr .hl, .none, 2, 4, 0⟩
  | .sra_a => ⟨.cb 0x2F, .sra, .r8 .a, .none, 2, 2, 0⟩
  | .swap_b => ⟨.cb 0x30, .swap, .r8 .b, .none, 2, 2, 0⟩
  | .swap_c => ⟨.cb 0x31, .swap, .r8 .c, .none, 2, 2, 0⟩
  | .swap_d => ⟨.cb 0x32, .swap, .r8 .d, .none, 2, 2, 0⟩
  | .swap_e => ⟨.cb 0x33, .swap, .r8 .e, .none, 2, 2, 0⟩
  | .swap_h => ⟨.cb 0x34, .swap, .r8 .h, .none, 2, 2, 0⟩
  | .swap_l => ⟨.cb 0x35, .swap, .r8 .l, .none, 2, 2, 0⟩
  | .swap_mhl => ⟨.cb 0x36, .swap, .ptr .hl, .none, 2, 4, 0⟩
  | .swap_a => ⟨.cb 0x37, .swap, .r8 .a, .none, 2, 2, 0⟩
  | .srl_b => ⟨.cb 0x38, .srl, .r8 .b, .none, 2, 2, 0⟩
  | .srl_c => ⟨.cb 0x39, .srl, .r8 .c, .none, 2, 2, 0⟩
  | .srl_d => ⟨.cb 0x3A, .srl, .r8 .d, .none, 2, 2, 0⟩
  | .srl_e => ⟨.cb 0x3B, .srl, .r8 .e, .none, 2, 2, 0⟩
  | .srl_h => ⟨.cb 0x3C, .srl, .r8 .h, .none, 2, 2, 0⟩
  | .srl_l => ⟨.cb 0x3D, .srl, .r8 .l, .none, 2, 2, 0⟩
  | .srl_mhl => ⟨.cb 0x3E, .srl, .ptr .hl, .none, 2, 4, 0⟩
  | .srl_a => ⟨.cb 0x3F, .srl, .r8 .a, .none, 2, 2, 0⟩
  | .bit_0_b => ⟨.cb 0x40, .bit, .r8 .b, .lit 0x00, 2, 2, 0⟩
  | .bit_0_c => ⟨.cb 0x41, .bit, .r8 .c, .lit 0x00, 2, 2, 0⟩
  | .bit_0_d => ⟨.cb 0x42, .bit, .r8 .d, .lit 0x00, 2, 2, 0⟩
  | .bit_0_e => ⟨.cb 0x43, .bit, .r8 .e, .lit 0x00, 2, 2, 0⟩
  | .bit_0_h => ⟨.cb 0x44, .bit, .r8 .h, .lit 0x00, 2, 2, 0⟩
  | .bit_0_l => ⟨.cb 0x45, .bit, .r8 .l, .lit 0x00, 2, 2, 0⟩
  | .bit_0_mhl => ⟨.cb 0x46, .bit, .ptr .hl, .lit 0x00, 2, 3, 0⟩
  | .bit_0_a => ⟨.cb 0x47, .bit, .r8 .a, .lit 0x00, 2, 2, 0⟩
  | .bit_1_b => ⟨.cb 0x48, .bit, .r8 .b, .lit 0x01, 2, 2, 0⟩
  | .bit_1_c => ⟨.cb 0x49, .bit, .r8 .c, .lit 0x01, 2, 2, 0⟩
  | .bit_1_d => ⟨.cb 0x4A, .bit, .r8 .d, .lit 0x01, 2, 2, 0⟩
  | .bit_1_e => ⟨.cb 0x4B, .bit, .r8 .e, .lit 0x01, 2, 2, 0⟩
  | .bit_1_h => ⟨.cb 0x4C, .bit, .r8 .h, .lit 0x01, 2, 2, 0⟩
  | .bit_1_l => ⟨.cb 0x4D, .bit, .r8 .l, .lit 0x01, 2, 2, 0⟩
  | .bit_1_mhl => ⟨.cb 0x4E, .bit, .ptr .hl, .lit 0x01, 2, 3, 0⟩
  | .bit_1_a => ⟨.cb 0x4F, .bit, .r8 .a, .lit 0x01, 2, 2, 0⟩
  | .bit_2_b => ⟨.cb 0x50, .bit, .r8 .b, .lit 0x02, 2, 2, 0⟩
  | .bit_2_c => ⟨.cb 0x51, .bit, .r8 .c, .lit 0x02, 2, 2, 0⟩
  | .bit_2_d => ⟨.cb 0x52, .bit, .r8 .d, .lit 0x02, 2, 2, 0⟩
  | .bit_2_e => ⟨.cb 0x53, .bit, .r8 .e, .lit 0x02, 2, 2, 0⟩
  | .bit_2_h => ⟨.cb 0x54, .bit, .r8 .h, .lit 0x02, 2, 2, 0⟩
  | .bit_2_l => ⟨.cb 0x55, .bit, .r8 .l, .lit 0x02, 2, 2, 0⟩
  | .bit_2_mhl => ⟨.cb 0x56, .bit, .ptr .hl, .lit 0x02, 2, 3, 0⟩
  | .bit_2_a => ⟨.cb 0x57, .bit, .r8 .a, .lit 0x02, 2, 2, 0⟩
  | .bit_3_b => ⟨.cb 0x58, .bit, .r8 .b, .lit 0x03, 2, 2, 0⟩
  | .bit_3_c => ⟨.cb 0x59, .bit, .r8 .c, .lit 0x03, 2, 2, 0⟩
  | .bit_3_d => ⟨.cb 0x5A, .bit, .r8 .d, .lit 0x03, 2, 2, 0⟩
  | .bit_3_e => ⟨.cb 0x5B, .bit, .r8 .e, .lit 0x03, 2, 2, 0⟩
  | .bit_3_h => ⟨.cb 0x5C, .bit, .r8 .h, .lit 0x03, 2, 2, 0⟩
  | .bit_3_l => ⟨.cb 0x5D, .bit, .r8 .l, .lit 0x03, 2, 2, 0⟩
  | .bit_3_mhl => ⟨.cb 0x5E, .bit, .ptr .hl, .lit 0x03, 2, 3, 0⟩
  | .bit_3_a => ⟨.cb 0x5F, .bit, .r8 .a, .lit 0x03, 2, 2, 0⟩
  | .bit_4_b => ⟨.cb 0x60, .bit, .r8 .b, .lit 0x04, 2, 2, 0⟩
  | .bit_4_c => ⟨.cb 0x61, .bit, .r8 .c, .lit 0x04, 2, 2, 0⟩
  | .bit_4_d => ⟨.cb 0x62, .bit, .r8 .d, .lit 0x04, 2, 2, 0⟩
  | .bit_4_e => ⟨.cb 0x63, .bit, .r8 .e, .lit 0x04, 2, 2, 0⟩
  | .bit_4_h => ⟨.cb 0x64, .bit, .r8 .h, .lit 0x04, 2, 2, 0⟩
  | .bit_4_l => ⟨.cb 0x65, .bit, .r8 .l, .lit 0x04, 2, 2, 0⟩
  | .bit_4_mhl => ⟨.cb 0x66, .bit, .ptr .hl, .lit 0x04, 2, 3, 0⟩
  | .bit_4_a => ⟨.cb 0x67, .bit, .r8 .a, .lit 0x04, 2, 2, 0⟩
  | .bit_5_b => ⟨.cb 0x68, .bit, .r8 .b, .lit 0x05, 2, 2, 0⟩
  | .bit_5_c => ⟨.cb 0x69, .bit, .r8 .c, .lit 0x05, 2, 2, 0⟩
  | .bit_5_d => ⟨.cb 0x6A, .bit, .r8 .d, .lit 0x05, 2, 2, 0⟩
  | .bit_5_e => ⟨.cb 0x6B, .bit, .r8 .e, .lit 0x05, 2, 2, 0⟩
  | .bit_5_h => ⟨.cb 0x6C, .bit, .r8 .h, .lit 0x05, 2, 2, 0⟩
  | .bit_5_l => ⟨.cb 0x6D, .bit, .r8 .l, .lit 0x05, 2, 2, 0⟩
  | .bit_5_mhl => ⟨.cb 0x6E, .bit, .ptr .hl, .lit 0x05, 2, 3, 0⟩
  | .bit_5_a => ⟨.cb 0x6F, .bit, .r8 .a, .lit 0x05, 2, 2, 0⟩
  | .bit_6_b => ⟨.cb 0x70, .bit, .r8 .b, .lit 0x06, 2, 2, 0⟩
  | .bit_6_c => ⟨.cb 0x71, .bit, .r8 .c, .lit 0x06, 2, 2, 0⟩
  | .bit_6_d => ⟨.cb 0x72, .bit, .r8 .d, .lit 0x06, 2, 2, 0⟩
  | .bit_6_e => ⟨.cb 0x73, .bit, .r8 .e, .lit 0x06, 2, 2, 0⟩
  | .bit_6_h => ⟨.cb 0x74, .bit, .r8 .h, .lit 0x06, 2, 2, 0⟩
  | .bit_6_l => ⟨.cb 0x75, .bit, .r8 .l, .lit 0x06, 2, 2, 0⟩
  | .bit_6_mhl => ⟨.cb 0x76, .bit, .ptr .hl, .lit 0x06, 2, 3, 0⟩
  | .bit_6_a => ⟨.cb 0x77, .bit, .r8 .a, .lit 0x06, 2, 2, 0⟩
  | .bit_7_b => ⟨.cb 0x78, .bit, .r8 .b, .lit 0x07, 2, 2, 0⟩
  | .bit_7_c => ⟨.cb 0x79, .bit, .r8 .c, .lit 0x07, 2, 2, 0⟩
  | .bit_7_d => ⟨.cb 0x7A, .bit, .r8 .d, .lit 0x07, 2, 2, 0⟩
  | .bit_7_e => ⟨.cb 0x7B, .bit, .r8 .e, .lit 0x07, 2, 2, 0⟩
  | .bit_7_h => ⟨.cb 0x7C, .bit, .r8 .h, .lit 0x07, 2, 2, 0⟩
  | .bit_7_l => ⟨.cb 0x7D, .bit, .r8 .l, .lit 0x07, 2, 2, 0⟩
  | .bit_7_mhl => ⟨.cb 0x7E, .bit, .ptr .hl, .lit 0x07, 2, 3, 0⟩
  | .bit_7_a => ⟨.cb 0x7F, .bit, .r8 .a, .lit 0x07, 2, 2, 0⟩
  | .res_0_b => ⟨.cb 0x80, .res, .r8 .b, .lit 0x00, 2, 2, 0⟩
  | .res_0_c => ⟨.cb 0x81, .res, .r8 .c, .lit 0x00, 2, 2, 0⟩
  | .res_0_d => ⟨.cb 0x82, .res, .r8 .d, .lit 0x00, 2, 2, 0⟩
  | .res_0_e => ⟨.cb 0x83, .res, .r8 .e, .lit 0x00, 2, 2, 0⟩
  | .res_0_h => ⟨.cb 0x84, .res, .r8 .h, .lit 0x00, 2, 2, 0⟩
  | .res_0_l => ⟨.cb 0x85, .res, .r8 .l, .lit 0x00, 2, 2, 0⟩
  | .res_0_mhl => ⟨.cb 0x86, .res, .ptr .hl, .lit 0x00, 2, 4, 0⟩
  | .res_0_a => ⟨.cb 0x87, .res, .r8 .a, .lit 0x00, 2, 2, 0⟩
  | .res_1_b => ⟨.cb 0x88, .res, .r8 .b, .lit 0x01, 2, 2, 0⟩
  | .res_1_c => ⟨.cb 0x89, .res, .r8 .c, .lit 0x01, 2, 2, 0⟩
  | .res_1_d => ⟨.cb 0x8A, .res, .r8 .d, .lit 0x01, 2, 2, 0⟩
  | .res_1_e => ⟨.cb 0x8B, .res, .r8 .e, .lit 0x01, 2, 2, 0⟩
  | .res_1_h => ⟨.cb 0x8C, .res, .r8 .h, .lit 0x01, 2, 2, 0⟩
  | .res_1_l => ⟨.cb 0x8D, .res, .r8 .l, .lit 0x01, 2, 2, 0⟩
  | .res_1_mhl => ⟨.cb 0x8E, .res, .ptr .hl, .lit 0x01, 2, 4, 0⟩
  | .res_1_a => ⟨.cb 0x8F, .res, .r8 .a, .lit 0x01, 2, 2, 0⟩
  | .res_2_b => ⟨.cb 0x90, .res, .r8 .b, .lit 0x02, 2, 2, 0⟩
  | .res_2_c => ⟨.cb 0x91, .res, .r8 .c, .lit 0x02, 2, 2, 0⟩
  | .res_2_d => ⟨.cb 0x92, .res, .r8 .d, .lit 0x02, 2, 2, 0⟩
  | .res_2_e => ⟨.cb 0x93, .res, .r8 .e, .lit 0x02, 2, 2, 0⟩
  | .res_2_h => ⟨.cb 0x94, .res, .r8 .h, .lit 0x02, 2, 2, 0⟩
  | .res_2_l => ⟨.cb 0x95, .res, .r8 .l, .lit 0x02, 2, 2, 0⟩
  | .res_2_mhl => ⟨.cb 0x96, .res, .ptr .hl, .lit 0x02, 2, 4, 0⟩
  | .res_2_a => ⟨.cb 0x97, .res, .r8 .a, .lit 0x02, 2, 2, 0⟩
  | .res_3_b => ⟨.cb 0x98, .res, .r8 .b, .lit 0x03, 2, 2, 0⟩
  | .res_3_c => ⟨.cb 0x99, .res, .r8 .c, .lit 0x03, 2, 2, 0⟩
  | .res_3_d => ⟨.cb 0x9A, .res, .r8 .d, .lit 0x03, 2, 2, 0⟩
  | .res_3_e => ⟨.cb 0x9B, .res, .r8 .e, .lit 0x03, 2, 2, 0⟩
  | .res_3_h => ⟨.cb 0x9C, .res, .r8 .h, .lit 0x03, 2, 2, 0⟩
  | .res_3_l => ⟨.cb 0x9D, .res, .r8 .l, .lit 0x03, 2, 2, 0⟩
  | .res_3_mhl => ⟨.cb 0x9E, .res, .ptr .hl, .lit 0x03, 2, 4, 0⟩
  | .res_3_a => ⟨.cb 0x9F, .res, .r8 .a, .lit 0x03, 2, 2, 0⟩
  | .res_4_b => ⟨.cb 0xA0, .res, .r8 .b, .lit 0x04, 2, 2, 0⟩
  | .res_4_c => ⟨.cb 0xA1, .res, .r8 .c, .lit 0x04, 2, 2, 0⟩
  | .res_4_d => ⟨.cb 0xA2, .res, .r8 .d, .lit 0x04, 2, 2, 0⟩
  | .res_4_e => ⟨.cb 0xA3, .res, .r8 .e, .lit 0x04, 2, 2, 0⟩
  | .res_4_h => ⟨.cb 0xA4, .res, .r8 .h, .lit 0x04, 2, 2, 0⟩
  | .res_4_l => ⟨.cb 0xA5, .res, .r8 .l, .lit 0x04, 2, 2, 0⟩
  | .res_4_mhl => ⟨.cb 0xA6, .res, .ptr .hl, .lit 0x04, 2, 4, 0⟩
  | .res_4_a => ⟨.cb 0xA7, .res, .r8 .a, .lit 0x04, 2, 2, 0⟩
  | .res_5_b => ⟨.cb 0xA8, .res, .r8 .b, .lit 0x05, 2, 2, 0⟩
  | .res_5_c => ⟨.cb 0xA9, .res, .r8 .c, .lit 0x05, 2, 2, 0⟩
  | .res_5_d => ⟨.cb 0xAA, .res, .r8 .d, .lit 0x05, 2, 2, 0⟩
  | .res_5_e => ⟨.cb 0xAB, .res, .r8 .e, .lit 0x05, 2, 2, 0⟩
  | .res_5_h => ⟨.cb 0xAC, .res, .r8 .h, .lit 0x05, 2, 2, 0⟩
  | .res_5_l => ⟨.cb 0xAD, .res, .r8 .l, .lit 0x05, 2, 2, 0⟩
  | .res_5_mhl => ⟨.cb 0xAE, .res, .ptr .hl, .lit 0x05, 2, 4, 0⟩
  | .res_5_a => ⟨.cb 0xAF, .res, .r8 .a, .lit 0x05, 2, 2, 0⟩
  | .res_6_b => ⟨.cb 0xB0, .res, .r8 .b, .lit 0x06, 2, 2, 0⟩
  | .res_6_c => ⟨.cb 0xB1, .res, .r8 .c, .lit 0x06, 2, 2, 0⟩
  | .res_6_d => ⟨.cb 0xB2, .res, .r8 .d, .lit 0x06, 2, 2, 0⟩
  | .res_6_e => ⟨.cb 0xB3, .res, .r8 .e, .lit 0x06, 2, 2, 0⟩
  | .res_6_h => ⟨.cb 0xB4, .res, .r8 .h, .lit 0x06, 2, 2, 0⟩
  | .res_6_l => ⟨.cb 0xB5, .res, .r8 .l, .lit 0x06, 2, 2, 0⟩
  | .res_6_mhl => ⟨.cb 0xB6, .res, .ptr .hl, .lit 0x06, 2, 4, 0⟩
  | .res_6_a => ⟨.cb 0xB7, .res, .r8 .a, .lit 0x06, 2, 2, 0⟩
  | .res_7_b => ⟨.cb 0xB8, .res, .r8 .b, .lit 0x07, 2, 2, 0⟩
  | .res_7_c => ⟨.cb 0xB9, .res, .r8 .c, .lit 0x07, 2, 2, 0⟩
  | .res_7_d => ⟨.cb 0xBA, .res, .r8 .d, .lit 0x07, 2, 2, 0⟩
  | .res_7_e => ⟨.cb 0xBB, .res, .r8 .e, .lit 0x07, 2, 2, 0⟩
  | .res_7_h => ⟨.cb 0xBC, .res, .r8 .h, .lit 0x07, 2, 2, 0⟩
  | .res_7_l => ⟨.cb 0xBD, .res, .r8 .l, .lit 0x07, 2, 2, 0⟩
  | .res_7_mhl => ⟨.cb 0xBE, .res, .ptr .hl, .lit 0x07, 2, 4, 0⟩
  | .res_7_a => ⟨.cb 0xBF, .res, .r8 .a, .lit 0x07, 2, 2, 0⟩
  | .set_0_b => ⟨.cb 0xC0, .set, .r8 .b, .lit 0x00, 2, 2, 0⟩
  | .set_0_c => ⟨.cb 0xC1, .set, .r8 .c, .lit 0x00, 2, 2, 0⟩
  | .set_0_d => ⟨.cb 0xC2, .set, .r8 .d, .lit 0x00, 2, 2, 0⟩
  | .set_0_e => ⟨.cb 0xC3, .set, .r8 .e, .lit 0x00, 2, 2, 0⟩
  | .set_0_h => ⟨.cb 0xC4, .set, .r8 .h, .lit 0x00, 2, 2, 0⟩
  | .set_0_l => ⟨.cb 0xC5, .set, .r8 .l, .lit 0x00, 2, 2, 0⟩
  | .set_0_mhl => ⟨.cb 0xC6, .set, .ptr .hl, .lit 0x00, 2, 4, 0⟩
  | .set_0_a => ⟨.cb 0xC7, .set, .r8 .a, .lit 0x00, 2, 2, 0⟩
  | .set_1_b => ⟨.cb 0xC8, .set, .r8 .b, .lit 0x01, 2, 2, 0⟩
  | .set_1_c => ⟨.cb 0xC9, .set, .r8 .c, .lit 0x01, 2, 2, 0⟩
  | .set_1_d => ⟨.cb 0xCA, .set, .r8 .d, .lit 0x01, 2, 2, 0⟩
  | .set_1_e => ⟨.cb 0xCB, .set, .r8 .e, .lit 0x01, 2, 2, 0⟩
  | .set_1_h => ⟨.cb 0xCC, .set, .r8 .h, .lit 0x01, 2, 2, 0⟩
  | .set_1_l => ⟨.cb 0xCD, .set, .r8 .l, .lit 0x01, 2, 2, 0⟩
  | .set_1_mhl => ⟨.cb 0xCE, .set, .ptr .hl, .lit 0x01, 2, 4, 0⟩
  | .set_1_a => ⟨.cb 0xCF, .set, .r8 .a, .lit 0x01, 2, 2, 0⟩
  | .set_2_b => ⟨.cb 0xD0, .set, .r8 .b, .lit 0x02, 2, 2, 0⟩
  | .set_2_c => ⟨.cb 0xD1, .set, .r8 .c, .lit 0x02, 2, 2, 0⟩
  | .set_2_d => ⟨.cb 0xD2, .set, .r8 .d, .lit 0x02, 2, 2, 0⟩
  | .set_2_e => ⟨.cb 0xD3, .set, .r8 .e, .lit 0x02, 2, 2, 0⟩
  | .set_2_h => ⟨.cb 0xD4, .set, .r8 .h, .lit 0x02, 2, 2, 0⟩
  | .set_2_l => ⟨.cb 0xD5, .set, .r8 .l, .lit 0x02, 2, 2, 0⟩
  | .set_2_mhl => ⟨.cb 0xD6, .set, .ptr .hl, .lit 0x02, 2, 4, 0⟩
  | .set_2_a => ⟨.cb 0xD7, .set, .r8 .a, .lit 0x02, 2, 2, 0⟩
  | .set_3_b => ⟨.cb 0xD8, .set, .r8 .b, .lit 0x03, 2, 2, 0⟩
  | .set_3_c => ⟨.cb 0xD9, .set, .r8 .c, .lit 0x03, 2, 2, 0⟩
  | .set_3_d => ⟨.cb 0xDA, .set, .r8 .d, .lit 0x03, 2, 2, 0⟩
  | .set_3_e => ⟨.cb 0xDB, .set, .r8 .e, .lit 0x03, 2, 2, 0⟩
  | .set_3_h => ⟨.cb 0xDC, .set, .r8 .h, .lit 0x03, 2, 2, 0⟩
  | .set_3_l => ⟨.cb 0xDD, .set, .r8 .l, .lit 0x03, 2, 2, 0⟩
  | .set_3_mhl => ⟨.cb 0xDE, .set, .ptr .hl, .lit 0x03, 2, 4, 0⟩
  | .set_3_a => ⟨.cb 0xDF, .set, .r8 .a, .lit 0x03, 2, 2, 0⟩
  | .set_4_b => ⟨.cb 0xE0, .set, .r8 .b, .lit 0x04, 2, 2, 0⟩
  | .set_4_c => ⟨.cb 0xE1, .set, .r8 .c, .lit 0x04, 2, 2, 0⟩
  | .set_4_d => ⟨.cb 0xE2, .set, .r8 .d, .lit 0x04, 2, 2, 0⟩
  | .set_4_e => ⟨.cb 0xE3, .set, .r8 .e, .lit 0x04, 2, 2, 0⟩
  | .set_4_h => ⟨.cb 0xE4, .set, .r8 .h, .lit 0x04, 2, 2, 0⟩
  | .set_4_l => ⟨.cb 0xE5, .set, .r8 .l, .lit 0x04, 2, 2, 0⟩
  | .set_4_mhl => ⟨.cb 0xE6, .set, .ptr .hl, .lit 0x04, 2, 4, 0⟩
  | .set_4_a => ⟨.cb 0xE7, .set, .r8 .a, .lit 0x04, 2, 2, 0⟩
  | .set_5_b => ⟨.cb 0xE8, .set, .r8 .b, .lit 0x05, 2, 2, 0⟩
  | .set_5_c => ⟨.cb 0xE9, .set, .r8 .c, .lit 0x05, 2, 2, 0⟩
  | .set_5_d => ⟨.cb 0xEA, .set, .r8 .d, .lit 0x05, 2, 2, 0⟩
  | .set_5_e => ⟨.cb 0xEB, .set, .r8 .e, .lit 0x05, 2, 2, 0⟩
  | .set_5_h => ⟨.cb 0xEC, .set, .r8 .h, .lit 0x05, 2, 2, 0⟩
  | .set_5_l => ⟨.cb 0xED, .set, .r8 .l, .lit 0x05, 2, 2, 0⟩
  | .set_5_mhl => ⟨.cb 0xEE, .set, .ptr .hl, .lit 0x05, 2, 4, 0⟩
  | .set_5_a => ⟨.cb 0xEF, .set, .r8 .a, .lit 0x05, 2, 2, 0⟩
  | .set_6_b => ⟨.cb 0xF0, .set, .r8 .b, .lit 0x06, 2, 2, 0⟩
  | .set_6_c => ⟨.cb 0xF1, .set, .r8 .c, .lit 0x06, 2, 2, 0⟩
  | .set_6_d => ⟨.cb 0xF2, .set, .r8 .d, .lit 0x06, 2, 2, 0⟩
  | .set_6_e => ⟨.cb 0xF3, .set, .r8 .e, .lit 0x06, 2, 2, 0⟩
  | .set_6_h => ⟨.cb 0xF4, .set, .r8 .h, .lit 0x06, 2, 2, 0⟩
  | .set_6_l => ⟨.cb 0xF5, .set, .r8 .l, .lit 0x06, 2, 2, 0⟩
  | .set_6_mhl => ⟨.cb 0xF6, .set, .ptr .hl, .lit 0x06, 2, 4, 0⟩
  | .set_6_a => ⟨.cb 0xF7, .set, .r8 .a, .lit 0x06, 2, 2, 0⟩
  | .set_7_b => ⟨.cb 0xF8, .set, .r8 .b, .lit 0x07, 2, 2, 0⟩
  | .set_7_c => ⟨.cb 0xF9, .set, .r8 .c, .lit 0x07, 2, 2, 0⟩
  | .set_7_d => ⟨.cb 0xFA, .set, .r8 .d, .lit 0x07, 2, 2, 0⟩
  | .set_7_e => ⟨.cb 0xFB, .set, .r8 .e, .lit 0x07, 2, 2, 0⟩
  | .set_7_h => ⟨.cb 0xFC, .set, .r8 .h, .lit 0x07, 2, 2, 0⟩
  | .set_7_l => ⟨.cb 0xFD, .set, .r8 .l, .lit 0x07, 2, 2, 0⟩
  | .set_7_mhl => ⟨.cb 0xFE, .set, .ptr .hl, .lit 0x07, 2, 4, 0⟩
  | .set_7_a => ⟨.cb 0xFF, .set, .r8 .a, .lit 0x07, 2, 2, 0⟩

/-- The length of an instruction in bytes (R57). -/
def Instr.length (i : Instr) : Nat := i.record.length

/-- An entry of the base grid: given the two bytes after the opcode, the instruction. -/
abbrev BaseEntry := Byte → Byte → Instr

/-- Row 0x0_ of the base table (R68). -/
def baseRow0 : List BaseEntry := [
  fun _ _ => .nop, fun l h => .ld_bc_d16 (cat h l), fun _ _ => .ld_mbc_a,
  fun _ _ => .inc_bc, fun _ _ => .inc_b, fun _ _ => .dec_b,
  fun n _ => .ld_b_d8 n, fun _ _ => .rlca, fun l h => .ld_ma16_sp (cat h l),
  fun _ _ => .add_hl_bc, fun _ _ => .ld_a_mbc, fun _ _ => .dec_bc,
  fun _ _ => .inc_c, fun _ _ => .dec_c, fun n _ => .ld_c_d8 n,
  fun _ _ => .rrca]

/-- Row 0x1_ of the base table (R68). -/
def baseRow1 : List BaseEntry := [
  fun n _ => .stop_d8 n, fun l h => .ld_de_d16 (cat h l), fun _ _ => .ld_mde_a,
  fun _ _ => .inc_de, fun _ _ => .inc_d, fun _ _ => .dec_d,
  fun n _ => .ld_d_d8 n, fun _ _ => .rla, fun n _ => .jr_e8 n,
  fun _ _ => .add_hl_de, fun _ _ => .ld_a_mde, fun _ _ => .dec_de,
  fun _ _ => .inc_e, fun _ _ => .dec_e, fun n _ => .ld_e_d8 n,
  fun _ _ => .rra]

/-- Row 0x2_ of the base table (R68). -/
def baseRow2 : List BaseEntry := [
  fun n _ => .jr_nz_e8 n, fun l h => .ld_hl_d16 (cat h l), fun _ _ => .ld_mhli_a,
  fun _ _ => .inc_hl, fun _ _ => .inc_h, fun _ _ => .dec_h,
  fun n _ => .ld_h_d8 n, fun _ _ => .daa, fun n _ => .jr_z_e8 n,
  fun _ _ => .add_hl_hl, fun _ _ => .ld_a_mhli, fun _ _ => .dec_hl,
  fun _ _ => .inc_l, fun _ _ => .dec_l, fun n _ => .ld_l_d8 n,
  fun _ _ => .cpl]

/-- Row 0x3_ of the base table (R68). -/
def baseRow3 : List BaseEntry := [
  fun n _ => .jr_nc_e8 n, fun l h => .ld_sp_d16 (cat h l), fun _ _ => .ld_mhld_a,
  fun _ _ => .inc_sp, fun _ _ => .inc_mhl, fun _ _ => .dec_mhl,
  fun n _ => .ld_mhl_d8 n, fun _ _ => .scf, fun n _ => .jr_c_e8 n,
  fun _ _ => .add_hl_sp, fun _ _ => .ld_a_mhld, fun _ _ => .dec_sp,
  fun _ _ => .inc_a, fun _ _ => .dec_a, fun n _ => .ld_a_d8 n,
  fun _ _ => .ccf]

/-- Row 0x4_ of the base table (R68). -/
def baseRow4 : List BaseEntry := [
  fun _ _ => .ld_b_b, fun _ _ => .ld_b_c, fun _ _ => .ld_b_d,
  fun _ _ => .ld_b_e, fun _ _ => .ld_b_h, fun _ _ => .ld_b_l,
  fun _ _ => .ld_b_mhl, fun _ _ => .ld_b_a, fun _ _ => .ld_c_b,
  fun _ _ => .ld_c_c, fun _ _ => .ld_c_d, fun _ _ => .ld_c_e,
  fun _ _ => .ld_c_h, fun _ _ => .ld_c_l, fun _ _ => .ld_c_mhl,
  fun _ _ => .ld_c_a]

/-- Row 0x5_ of the base table (R68). -/
def baseRow5 : List BaseEntry := [
  fun _ _ => .ld_d_b, fun _ _ => .ld_d_c, fun _ _ => .ld_d_d,
  fun _ _ => .ld_d_e, fun _ _ => .ld_d_h, fun _ _ => .ld_d_l,
  fun _ _ => .ld_d_mhl, fun _ _ => .ld_d_a, fun _ _ => .ld_e_b,
  fun _ _ => .ld_e_c, fun _ _ => .ld_e_d, fun _ _ => .ld_e_e,
  fun _ _ => .ld_e_h, fun _ _ => .ld_e_l, fun _ _ => .ld_e_mhl,
  fun _ _ => .ld_e_a]

/-- Row 0x6_ of the base table (R68). -/
def baseRow6 : List BaseEntry := [
  fun _ _ => .ld_h_b, fun _ _ => .ld_h_c, fun _ _ => .ld_h_d,
  fun _ _ => .ld_h_e, fun _ _ => .ld_h_h, fun _ _ => .ld_h_l,
  fun _ _ => .ld_h_mhl, fun _ _ => .ld_h_a, fun _ _ => .ld_l_b,
  fun _ _ => .ld_l_c, fun _ _ => .ld_l_d, fun _ _ => .ld_l_e,
  fun _ _ => .ld_l_h, fun _ _ => .ld_l_l, fun _ _ => .ld_l_mhl,
  fun _ _ => .ld_l_a]

/-- Row 0x7_ of the base table (R68). -/
def baseRow7 : List BaseEntry := [
  fun _ _ => .ld_mhl_b, fun _ _ => .ld_mhl_c, fun _ _ => .ld_mhl_d,
  fun _ _ => .ld_mhl_e, fun _ _ => .ld_mhl_h, fun _ _ => .ld_mhl_l,
  fun _ _ => .halt, fun _ _ => .ld_mhl_a, fun _ _ => .ld_a_b,
  fun _ _ => .ld_a_c, fun _ _ => .ld_a_d, fun _ _ => .ld_a_e,
  fun _ _ => .ld_a_h, fun _ _ => .ld_a_l, fun _ _ => .ld_a_mhl,
  fun _ _ => .ld_a_a]

/-- Row 0x8_ of the base table (R68). -/
def baseRow8 : List BaseEntry := [
  fun _ _ => .add_a_b, fun _ _ => .add_a_c, fun _ _ => .add_a_d,
  fun _ _ => .add_a_e, fun _ _ => .add_a_h, fun _ _ => .add_a_l,
  fun _ _ => .add_a_mhl, fun _ _ => .add_a_a, fun _ _ => .adc_a_b,
  fun _ _ => .adc_a_c, fun _ _ => .adc_a_d, fun _ _ => .adc_a_e,
  fun _ _ => .adc_a_h, fun _ _ => .adc_a_l, fun _ _ => .adc_a_mhl,
  fun _ _ => .adc_a_a]

/-- Row 0x9_ of the base table (R68). -/
def baseRow9 : List BaseEntry := [
  fun _ _ => .sub_a_b, fun _ _ => .sub_a_c, fun _ _ => .sub_a_d,
  fun _ _ => .sub_a_e, fun _ _ => .sub_a_h, fun _ _ => .sub_a_l,
  fun _ _ => .sub_a_mhl, fun _ _ => .sub_a_a, fun _ _ => .sbc_a_b,
  fun _ _ => .sbc_a_c, fun _ _ => .sbc_a_d, fun _ _ => .sbc_a_e,
  fun _ _ => .sbc_a_h, fun _ _ => .sbc_a_l, fun _ _ => .sbc_a_mhl,
  fun _ _ => .sbc_a_a]

/-- Row 0xA_ of the base table (R68). -/
def baseRowA : List BaseEntry := [
  fun _ _ => .and_a_b, fun _ _ => .and_a_c, fun _ _ => .and_a_d,
  fun _ _ => .and_a_e, fun _ _ => .and_a_h, fun _ _ => .and_a_l,
  fun _ _ => .and_a_mhl, fun _ _ => .and_a_a, fun _ _ => .xor_a_b,
  fun _ _ => .xor_a_c, fun _ _ => .xor_a_d, fun _ _ => .xor_a_e,
  fun _ _ => .xor_a_h, fun _ _ => .xor_a_l, fun _ _ => .xor_a_mhl,
  fun _ _ => .xor_a_a]

/-- Row 0xB_ of the base table (R68). -/
def baseRowB : List BaseEntry := [
  fun _ _ => .or_a_b, fun _ _ => .or_a_c, fun _ _ => .or_a_d,
  fun _ _ => .or_a_e, fun _ _ => .or_a_h, fun _ _ => .or_a_l,
  fun _ _ => .or_a_mhl, fun _ _ => .or_a_a, fun _ _ => .cp_a_b,
  fun _ _ => .cp_a_c, fun _ _ => .cp_a_d, fun _ _ => .cp_a_e,
  fun _ _ => .cp_a_h, fun _ _ => .cp_a_l, fun _ _ => .cp_a_mhl,
  fun _ _ => .cp_a_a]

/-- Row 0xC_ of the base table (R68). -/
def baseRowC : List BaseEntry := [
  fun _ _ => .ret_nz, fun _ _ => .pop_bc, fun l h => .jp_nz_a16 (cat h l),
  fun l h => .jp_a16 (cat h l), fun l h => .call_nz_a16 (cat h l), fun _ _ => .push_bc,
  fun n _ => .add_a_d8 n, fun _ _ => .rst_00, fun _ _ => .ret_z,
  fun _ _ => .ret, fun l h => .jp_z_a16 (cat h l), fun n _ => .prefix_cb n,
  fun l h => .call_z_a16 (cat h l), fun l h => .call_a16 (cat h l), fun n _ => .adc_a_d8 n,
  fun _ _ => .rst_08]

/-- Row 0xD_ of the base table (R68). -/
def baseRowD : List BaseEntry := [
  fun _ _ => .ret_nc, fun _ _ => .pop_de, fun l h => .jp_nc_a16 (cat h l),
  fun _ _ => .illegal_d3, fun l h => .call_nc_a16 (cat h l), fun _ _ => .push_de,
  fun n _ => .sub_a_d8 n, fun _ _ => .rst_10, fun _ _ => .ret_c,
  fun _ _ => .reti, fun l h => .jp_c_a16 (cat h l), fun _ _ => .illegal_db,
  fun l h => .call_c_a16 (cat h l), fun _ _ => .illegal_dd, fun n _ => .sbc_a_d8 n,
  fun _ _ => .rst_18]

/-- Row 0xE_ of the base table (R68). -/
def baseRowE : List BaseEntry := [
  fun n _ => .ldh_ma8_a n, fun _ _ => .pop_hl, fun _ _ => .ld_mc_a,
  fun _ _ => .illegal_e3, fun _ _ => .illegal_e4, fun _ _ => .push_hl,
  fun n _ => .and_a_d8 n, fun _ _ => .rst_20, fun n _ => .add_sp_e8 n,
  fun _ _ => .jp_hl, fun l h => .ld_ma16_a (cat h l), fun _ _ => .illegal_eb,
  fun _ _ => .illegal_ec, fun _ _ => .illegal_ed, fun n _ => .xor_a_d8 n,
  fun _ _ => .rst_28]

/-- Row 0xF_ of the base table (R68). -/
def baseRowF : List BaseEntry := [
  fun n _ => .ldh_a_ma8 n, fun _ _ => .pop_af, fun _ _ => .ld_a_mc,
  fun _ _ => .di, fun _ _ => .illegal_f4, fun _ _ => .push_af,
  fun n _ => .or_a_d8 n, fun _ _ => .rst_30, fun n _ => .ld_hl_spe8 n,
  fun _ _ => .ld_sp_hl, fun l h => .ld_a_ma16 (cat h l), fun _ _ => .ei,
  fun _ _ => .illegal_fc, fun _ _ => .illegal_fd, fun n _ => .cp_a_d8 n,
  fun _ _ => .rst_38]

/-- The base table, a row for each high nibble of the opcode (R68). -/
def baseGrid : List (List BaseEntry) :=
  [baseRow0, baseRow1, baseRow2, baseRow3, baseRow4, baseRow5, baseRow6, baseRow7,
   baseRow8, baseRow9, baseRowA, baseRowB, baseRowC, baseRowD, baseRowE, baseRowF]

/-- Row 0x0_ of the extended table (R69). -/
def cbRow0 : List Instr := [
  .rlc_b, .rlc_c, .rlc_d, .rlc_e, .rlc_h, .rlc_l, .rlc_mhl, .rlc_a,
  .rrc_b, .rrc_c, .rrc_d, .rrc_e, .rrc_h, .rrc_l, .rrc_mhl, .rrc_a]

/-- Row 0x1_ of the extended table (R69). -/
def cbRow1 : List Instr := [
  .rl_b, .rl_c, .rl_d, .rl_e, .rl_h, .rl_l, .rl_mhl, .rl_a,
  .rr_b, .rr_c, .rr_d, .rr_e, .rr_h, .rr_l, .rr_mhl, .rr_a]

/-- Row 0x2_ of the extended table (R69). -/
def cbRow2 : List Instr := [
  .sla_b, .sla_c, .sla_d, .sla_e, .sla_h, .sla_l, .sla_mhl, .sla_a,
  .sra_b, .sra_c, .sra_d, .sra_e, .sra_h, .sra_l, .sra_mhl, .sra_a]

/-- Row 0x3_ of the extended table (R69). -/
def cbRow3 : List Instr := [
  .swap_b, .swap_c, .swap_d, .swap_e, .swap_h, .swap_l, .swap_mhl, .swap_a,
  .srl_b, .srl_c, .srl_d, .srl_e, .srl_h, .srl_l, .srl_mhl, .srl_a]

/-- Row 0x4_ of the extended table (R69). -/
def cbRow4 : List Instr := [
  .bit_0_b, .bit_0_c, .bit_0_d, .bit_0_e, .bit_0_h, .bit_0_l, .bit_0_mhl, .bit_0_a,
  .bit_1_b, .bit_1_c, .bit_1_d, .bit_1_e, .bit_1_h, .bit_1_l, .bit_1_mhl, .bit_1_a]

/-- Row 0x5_ of the extended table (R69). -/
def cbRow5 : List Instr := [
  .bit_2_b, .bit_2_c, .bit_2_d, .bit_2_e, .bit_2_h, .bit_2_l, .bit_2_mhl, .bit_2_a,
  .bit_3_b, .bit_3_c, .bit_3_d, .bit_3_e, .bit_3_h, .bit_3_l, .bit_3_mhl, .bit_3_a]

/-- Row 0x6_ of the extended table (R69). -/
def cbRow6 : List Instr := [
  .bit_4_b, .bit_4_c, .bit_4_d, .bit_4_e, .bit_4_h, .bit_4_l, .bit_4_mhl, .bit_4_a,
  .bit_5_b, .bit_5_c, .bit_5_d, .bit_5_e, .bit_5_h, .bit_5_l, .bit_5_mhl, .bit_5_a]

/-- Row 0x7_ of the extended table (R69). -/
def cbRow7 : List Instr := [
  .bit_6_b, .bit_6_c, .bit_6_d, .bit_6_e, .bit_6_h, .bit_6_l, .bit_6_mhl, .bit_6_a,
  .bit_7_b, .bit_7_c, .bit_7_d, .bit_7_e, .bit_7_h, .bit_7_l, .bit_7_mhl, .bit_7_a]

/-- Row 0x8_ of the extended table (R69). -/
def cbRow8 : List Instr := [
  .res_0_b, .res_0_c, .res_0_d, .res_0_e, .res_0_h, .res_0_l, .res_0_mhl, .res_0_a,
  .res_1_b, .res_1_c, .res_1_d, .res_1_e, .res_1_h, .res_1_l, .res_1_mhl, .res_1_a]

/-- Row 0x9_ of the extended table (R69). -/
def cbRow9 : List Instr := [
  .res_2_b, .res_2_c, .res_2_d, .res_2_e, .res_2_h, .res_2_l, .res_2_mhl, .res_2_a,
  .res_3_b, .res_3_c, .res_3_d, .res_3_e, .res_3_h, .res_3_l, .res_3_mhl, .res_3_a]

/-- Row 0xA_ of the extended table (R69). -/
def cbRowA : List Instr := [
  .res_4_b, .res_4_c, .res_4_d, .res_4_e, .res_4_h, .res_4_l, .res_4_mhl, .res_4_a,
  .res_5_b, .res_5_c, .res_5_d, .res_5_e, .res_5_h, .res_5_l, .res_5_mhl, .res_5_a]

/-- Row 0xB_ of the extended table (R69). -/
def cbRowB : List Instr := [
  .res_6_b, .res_6_c, .res_6_d, .res_6_e, .res_6_h, .res_6_l, .res_6_mhl, .res_6_a,
  .res_7_b, .res_7_c, .res_7_d, .res_7_e, .res_7_h, .res_7_l, .res_7_mhl, .res_7_a]

/-- Row 0xC_ of the extended table (R69). -/
def cbRowC : List Instr := [
  .set_0_b, .set_0_c, .set_0_d, .set_0_e, .set_0_h, .set_0_l, .set_0_mhl, .set_0_a,
  .set_1_b, .set_1_c, .set_1_d, .set_1_e, .set_1_h, .set_1_l, .set_1_mhl, .set_1_a]

/-- Row 0xD_ of the extended table (R69). -/
def cbRowD : List Instr := [
  .set_2_b, .set_2_c, .set_2_d, .set_2_e, .set_2_h, .set_2_l, .set_2_mhl, .set_2_a,
  .set_3_b, .set_3_c, .set_3_d, .set_3_e, .set_3_h, .set_3_l, .set_3_mhl, .set_3_a]

/-- Row 0xE_ of the extended table (R69). -/
def cbRowE : List Instr := [
  .set_4_b, .set_4_c, .set_4_d, .set_4_e, .set_4_h, .set_4_l, .set_4_mhl, .set_4_a,
  .set_5_b, .set_5_c, .set_5_d, .set_5_e, .set_5_h, .set_5_l, .set_5_mhl, .set_5_a]

/-- Row 0xF_ of the extended table (R69). -/
def cbRowF : List Instr := [
  .set_6_b, .set_6_c, .set_6_d, .set_6_e, .set_6_h, .set_6_l, .set_6_mhl, .set_6_a,
  .set_7_b, .set_7_c, .set_7_d, .set_7_e, .set_7_h, .set_7_l, .set_7_mhl, .set_7_a]

/-- The extended table, a row for each high nibble of the selector (R69). -/
def cbGrid : List (List Instr) :=
  [cbRow0, cbRow1, cbRow2, cbRow3, cbRow4, cbRow5, cbRow6, cbRow7,
   cbRow8, cbRow9, cbRowA, cbRowB, cbRowC, cbRowD, cbRowE, cbRowF]

/-- `BASE_TABLE[o]`, its immediate taken from the two bytes after the opcode, little-endian (R64). The grid is
full, so neither default is reached. -/
def baseEntry (o b1 b2 : Byte) : Instr :=
  ((baseGrid.getD (o.toNat / 16) []).getD (o.toNat % 16) (fun _ _ => .nop)) b1 b2

/-- `CB_TABLE[o]`. The grid is full, so neither default is reached. -/
def cbEntry (o : Byte) : Instr :=
  (cbGrid.getD (o.toNat / 16) []).getD (o.toNat % 16) .nop

/-- `decode` as a function of the three bytes at `pc0`, `pc0 + 1` and `pc0 + 2` alone (R77, R78). Total: every
byte is an instruction, the prefix or an illegal slot, which is an instruction too (R71, R72). -/
def decode3 (b0 b1 b2 : Byte) : Instr :=
  if b0 = 0xCB then cbEntry b1 else baseEntry b0 b1 b2

/-- Why a list of bytes is no instruction. The CORE never meets either: its stream is the whole address space
(DESIGN CHOICE, log entry 16). -/
inductive DecodeError
  /-- There is no byte. -/
  | noByte
  /-- The list ends inside the instruction its first byte begins. -/
  | truncated
  deriving DecidableEq, Repr

/-- Decode the instruction at the head of a list of bytes, and give the bytes after it. -/
def decode : List Byte → Except DecodeError (Instr × List Byte)
  | [] => .error .noByte
  | b0 :: rest =>
    let i := decode3 b0 (rest.getD 0 0) (rest.getD 1 0)
    if i.length ≤ rest.length + 1 then .ok (i, rest.drop (i.length - 1)) else .error .truncated

/-- The immediate bytes an argument takes, the low byte first (R64). -/
def Arg.immBytes : Arg → List Byte
  | .ioImm8 n | .imm8 n | .simm8 n | .spOffset n => [n]
  | .imm16 w | .ptrImm16 w => [lo w, hi w]
  | .r8 _ | .r16 _ | .ptr _ | .ptrInc | .ptrDec | .ioC | .cond _ | .lit _ | .none => []

/-- The selector byte that follows the prefix entry (R67); no other instruction has one. -/
def Instr.selector : Instr → List Byte
  | .prefix_cb sel => [sel]
  | _ => []

/-- The bytes of an instruction (R57): the opcode and the immediate of its left or right argument (R65), or the
prefix and the extended opcode. -/
def encode (i : Instr) : List Byte :=
  match i.record.opcode with
  | .base o => o :: (i.record.lhs.immBytes ++ i.record.rhs.immBytes ++ i.selector)
  | .cb o => [0xCB, o]

/-- What an instruction does to one flag, as the table's `flags` column has it (R75): computed (`*`), cleared,
set, or unchanged (`-`). -/
inductive FlagEffect
  | computed | zero | one | keep
  deriving DecidableEq, Repr

/-- The `flags` column of a row (R75). -/
structure FlagColumn where
  z : FlagEffect
  n : FlagEffect
  h : FlagEffect
  c : FlagEffect
  deriving DecidableEq, Repr

/-- The `flags` column of each entry of spec/opcode_table.json (R75). It depends on the kind of the entry, and for
ADD, INC, DEC, LD and POP on its arguments. -/
def Record.flagColumn (r : Record) : FlagColumn :=
  match r.kind, r.lhs, r.rhs with
  | .add, .r16 .sp, _ | .ld, .r16 .hl, .spOffset _ => ⟨.zero, .zero, .computed, .computed⟩
  | .add, .r16 _, _ => ⟨.keep, .zero, .computed, .computed⟩
  | .add, _, _ | .adc, _, _ => ⟨.computed, .zero, .computed, .computed⟩
  | .sub, _, _ | .sbc, _, _ | .cp, _, _ => ⟨.computed, .one, .computed, .computed⟩
  | .and, _, _ => ⟨.computed, .zero, .one, .zero⟩
  | .xor, _, _ | .or, _, _ | .swap, _, _ => ⟨.computed, .zero, .zero, .zero⟩
  | .inc, .r16 _, _ | .dec, .r16 _, _ => ⟨.keep, .keep, .keep, .keep⟩
  | .inc, _, _ => ⟨.computed, .zero, .computed, .keep⟩
  | .dec, _, _ => ⟨.computed, .one, .computed, .keep⟩
  | .rlca, _, _ | .rrca, _, _ | .rla, _, _ | .rra, _, _ => ⟨.zero, .zero, .zero, .computed⟩
  | .daa, _, _ => ⟨.computed, .keep, .zero, .computed⟩
  | .cpl, _, _ => ⟨.keep, .one, .one, .keep⟩
  | .scf, _, _ => ⟨.keep, .zero, .zero, .one⟩
  | .ccf, _, _ => ⟨.keep, .zero, .zero, .computed⟩
  | .pop, .r16 .af, _ => ⟨.computed, .computed, .computed, .computed⟩
  | .rlc, _, _ | .rrc, _, _ | .rl, _, _ | .rr, _, _ | .sla, _, _ | .sra, _, _ | .srl, _, _ =>
    ⟨.computed, .zero, .zero, .computed⟩
  | .bit, _, _ => ⟨.computed, .zero, .one, .keep⟩
  | _, _, _ => ⟨.keep, .keep, .keep, .keep⟩

/-- The three bytes that begin an instruction whose bits the opcode table numbers as `w`, of `nbits` bits, every
bit above `nbits` 0. A base row is numbered byte by byte, its first byte in bits 7 to 0. A row of the extended
table is the one 16-bit number `byte0 · byte1` of the table (R75, `match` 0xCBss), its first byte in bits 15 to 8
(log entry 9). -/
def tableBytes (nbits w : Nat) : Byte × Byte × Byte :=
  let v := w % 2 ^ nbits
  if nbits = 16 ∧ v / 0x100 = 0xCB then (0xCB, BitVec.ofNat 8 v, 0)
  else (BitVec.ofNat 8 v, BitVec.ofNat 8 (v / 0x100), BitVec.ofNat 8 (v / 0x10000))

/-- The instruction the decoder reads from the bytes of `tableBytes`. -/
def decodeTableWord (nbits w : Nat) : Option Instr :=
  let (b0, b1, b2) := tableBytes nbits w
  match decode [b0, b1, b2] with
  | .ok (i, _) => some i
  | .error _ => none

end Sys2Proof
end

