-- ==== Sys2Proof/Machine/State.lean ====
section
/-! DEFINITION. The state of the CORE (spec/10_state.md R13 to R32), its bus (spec/20_memory.md R37), the ways a
step can stop, and the state right after reset (spec/70_reset_and_hazards.md R200). -/

namespace Sys2Proof.Machine

/-- The execution mode (R23). The modes are execution states, not privilege levels (spec/60_exceptions.md R186). -/
inductive Mode
  | booting | running | halted
  deriving DecidableEq, Repr

/-- Memory bytes: address and byte pairs in one canonical form, `Memory.wf`. -/
abbrev Memory := List Host.Cell

/-- The reference bus (R37, R38). -/
structure Bus where
  /-- While set, 0x0000-0x00FF read the boot ROM (R27, R38). -/
  bootRomActive : Bool
  /-- The bytes of RAM, 0x8000-0xFFFF, that are not in `VOLATILE` (R37). -/
  ram : Memory
  /-- The bytes of `VOLATILE`, 0xFF00-0xFF7F less 0xFF50, which the host may change between steps (R42). -/
  io : Memory
  /-- `BOOT_ROM`, the 256 bytes at 0x0000-0x00FF, a constant of the machine that the host supplies (R37, R192). -/
  bootRom : Memory
  /-- `CART`, a constant of the machine that the host supplies: a byte string of any length, or absent (R37). -/
  cart : Option (List Byte)
  deriving DecidableEq, Repr

/-- The complete state of the CORE (R32), and the model's own fields `irqDispatch`, `host` and `tick`. -/
structure State where
  /-- The accumulator (R13, R20). -/
  a : Byte
  /-- The flags Z N H C in bits 7 to 4; bits 3 to 0 are 0 (R16, R17). -/
  f : Byte
  b : Byte
  c : Byte
  d : Byte
  e : Byte
  h : Byte
  l : Byte
  /-- The stack pointer (R21). -/
  sp : Word
  /-- The program counter (R22). -/
  pc : Word
  /-- The execution mode (R23). -/
  mode : Mode
  /-- The interrupts-enabled flag IME (R24). -/
  ime : Bool
  /-- The one-instruction delay of EI (R25). -/
  eiInhibit : Bool
  /-- The cumulative cycle counter, 64 bits, wrapping (R26). -/
  cycleCount : BitVec 64
  /-- The bus (R32, R37). -/
  bus : Bus
  /-- The option `IRQ_DISPATCH` (R3, R7; log entry 5), which no step changes. -/
  irqDispatch : Bool
  /-- The model's own: the host's inputs at the coming step boundaries, oldest first. Where it is empty the input
  is the free value `Config.hostInput` (log entry 4). -/
  host : List HostInput
  /-- The model's own: the number of step boundaries so far, which numbers the free host inputs (log entry 4). -/
  tick : Nat
  deriving DecidableEq, Repr

/-- Why a step stops with a fault. There is no reason: the CORE raises no exception and no step fails (R91, R175),
and a model needs no fault outcome for a step (R176). -/
inductive Fault
  deriving DecidableEq, Repr

/-- Why a step is refused. -/
inductive Refusal
  /-- The instruction has no meaning in the model yet. Raised by no arm of `exec`: every instruction of the table
  has its meaning. Safe: the machine would stop where the hardware goes on. -/
  | notModelled (mnemonic : String)
  deriving DecidableEq, Repr

/-- The outcome of an instruction and of a step. -/
abbrev Out := Host.Outcome State Fault Refusal

/-- The state right after reset (R200). PC, the mode, IME, `ei_inhibit`, the cycle counter and `boot_rom_active` have
the spec's values (R193 to R197) and F[3:0] is 0 (R198). The registers and F[7:4], which the spec leaves a draw, are 0
(DESIGN CHOICE, log entry 1), RAM lists nothing (log entry 2), the boot ROM image is blank and the cartridge absent
(host inputs, log entry 3), and `IRQ_DISPATCH` has its default, false. `construct` gives the reset state of
every other draw and host input. -/
def State.reset : State where
  a := 0
  f := 0
  b := 0
  c := 0
  d := 0
  e := 0
  h := 0
  l := 0
  sp := 0
  pc := 0x0000
  mode := .booting
  ime := false
  eiInhibit := false
  cycleCount := 0
  bus := { bootRomActive := true, ram := [], io := [], bootRom := [], cart := none }
  irqDispatch := false
  host := []
  tick := 0

end Sys2Proof.Machine
end

