-- ==== Sys2Proof/Machine/Ops.lean ====
section
/-! DEFINITION. The named operations over memory and registers: the byte store, the bus (spec/20_memory.md), the
register file (spec/10_state.md R13 to R16), the stack (R46, R47), and the interrupt dispatch with the return from
it (spec/60_exceptions.md R181 to R184). -/

namespace Sys2Proof.Machine

/-! ### The byte store -/

/-- The byte of memory at an address; one that is not listed reads as `Config.unlistedByte` (log entry 2). -/
def Memory.lookup : Memory → Nat → Byte
  | [], _ => Config.unlistedByte
  | (k, v) :: m, n => if k = n then v else Memory.lookup m n

/-- Put a cell before the memory, unless its byte is the one an unlisted address reads as. -/
def Memory.cons (n : Nat) (v : Byte) (m : Memory) : Memory :=
  if v = Config.unlistedByte then m else (n, v) :: m

/-- Store a byte, keeping the canonical form. -/
def Memory.store : Memory → Nat → Byte → Memory
  | [], n, v => Memory.cons n v []
  | (k, w) :: m, n, v =>
    if n < k then Memory.cons n v ((k, w) :: m)
    else if n = k then Memory.cons n v m
    else (k, w) :: Memory.store m n v

/-- The canonical form: addresses strictly rising, and no byte that an unlisted address reads as. -/
abbrev Memory.wf (m : Memory) : Prop :=
  m.Pairwise (fun x y => x.1 < y.1) ∧ ∀ x ∈ m, x.2 ≠ Config.unlistedByte

/-! ### The bus -/

/-- `VOLATILE` = 0xFF00-0xFF7F, less `BOOT_DISABLE_ADDR` (R7, R42). -/
def isVolatile (n : Nat) : Bool :=
  decide (Config.volatileLo ≤ n) && decide (n ≤ Config.volatileHi) && n != Config.bootDisableAddr

/-- An address of RAM (R37) that is not in `VOLATILE`. -/
def isPlainRam (n : Nat) : Bool := decide (Config.cartEnd < n) && decide (n ≤ 0xFFFF) && !isVolatile n

/-- The bus is in form: each part canonical, `ram` over RAM less `VOLATILE`, `io` over `VOLATILE`, the boot ROM image
over its 256 bytes. -/
structure Bus.wf (b : Bus) : Prop where
  ram : Memory.wf b.ram
  io : Memory.wf b.io
  bootRom : Memory.wf b.bootRom
  ramAt : ∀ x ∈ b.ram, isPlainRam x.1 = true
  ioAt : ∀ x ∈ b.io, isVolatile x.1 = true
  bootRomAt : ∀ x ∈ b.bootRom, x.1 ≤ Config.bootEnd

/-- `read(a)` of the reference bus (R38, R39). Total, and without side effect (R35, R41). -/
def Bus.read (b : Bus) (a : Word) : Byte :=
  if b.bootRomActive = true ∧ a.toNat ≤ Config.bootEnd then Memory.lookup b.bootRom a.toNat
  else if a.toNat ≤ Config.cartEnd then (b.cart.getD []).getD a.toNat Config.openBus
  else if isVolatile a.toNat then Memory.lookup b.io a.toNat
  else Memory.lookup b.ram a.toNat

/-- Whether writing `v` at `a` disables the boot ROM: a nonzero value at `BOOT_DISABLE_ADDR` (R40). -/
def disablesBoot (a : Word) (v : Byte) : Bool :=
  a.toNat == Config.bootDisableAddr && v != 0

/-- `write(a, v)` of the reference bus (R38): no effect on the read-only window, else the byte is stored, and a
nonzero write to `BOOT_DISABLE_ADDR` clears `boot_rom_active` (R40). Total (R36). -/
def Bus.write (b : Bus) (a : Word) (v : Byte) : Bus :=
  if a.toNat ≤ Config.cartEnd then b
  else if isVolatile a.toNat then { b with io := Memory.store b.io a.toNat v }
  else { b with
    ram := Memory.store b.ram a.toNat v
    bootRomActive := b.bootRomActive && !disablesBoot a v }

/-- Store, in order, the cells whose address `keep` admits. -/
def Memory.storeAll (keep : Nat → Bool) (m : Memory) (xs : List Host.Cell) : Memory :=
  xs.foldl (fun m x => if keep x.1 then Memory.store m x.1 x.2 else m) m

/-- The host's changes at a step boundary: bytes of `VOLATILE`, in order; any other cell is ignored (R42). -/
def Bus.hostChanges (b : Bus) (xs : List Host.Cell) : Bus :=
  { b with io := Memory.storeAll isVolatile b.io xs }

/-- `MemRead(addr, 1)` (R35). -/
def State.read (s : State) (a : Word) : Byte := s.bus.read a

/-- `MemWrite(addr, 1, v)` (R36). -/
def State.write (s : State) (a : Word) (v : Byte) : State := { s with bus := s.bus.write a v }

/-- `MemWrite(addr, 2, v)`: the low byte at `a`, then the high byte at `a + 1`, which wraps (R44). -/
def State.write16 (s : State) (a : Word) (v : Word) : State := (s.write a (lo v)).write (a + 1) (hi v)

/-- `MemRead(addr, 2)`: the low byte at `a`, the high byte at `a + 1`, which wraps (R44). -/
def State.read16 (s : State) (a : Word) : Word := cat (s.read (a + 1)) (s.read a)

/-! ### The register file -/

/-- `x[r]` for an 8-bit register (R13). -/
def State.reg8 (s : State) : Reg8 → Byte
  | .a => s.a
  | .b => s.b
  | .c => s.c
  | .d => s.d
  | .e => s.e
  | .h => s.h
  | .l => s.l

/-- `x[r] <- v` for an 8-bit register: the other half of its pair is unchanged (R15). -/
def State.setReg8 (s : State) : Reg8 → Byte → State
  | .a, v => { s with a := v }
  | .b, v => { s with b := v }
  | .c, v => { s with c := v }
  | .d, v => { s with d := v }
  | .e, v => { s with e := v }
  | .h, v => { s with h := v }
  | .l, v => { s with l := v }

/-- A write of F stores `v & 0xF0`: the low nibble is hardwired to 0 (R16). -/
def State.setF (s : State) (v : Byte) : State := { s with f := v &&& 0xF0 }

/-- `x[rr]`: a pair is a view of two bytes, the first-named the high one (R14); SP has its own storage (R21). -/
def State.reg16 (s : State) : Reg16 → Word
  | .af => cat s.a s.f
  | .bc => cat s.b s.c
  | .de => cat s.d s.e
  | .hl => cat s.h s.l
  | .sp => s.sp

/-- `x[rr] <- v`: both bytes in one update (R15), F through `setF` (R16). -/
def State.setReg16 (s : State) : Reg16 → Word → State
  | .af, v => State.setF { s with a := hi v } (lo v)
  | .bc, v => { s with b := hi v, c := lo v }
  | .de, v => { s with d := hi v, e := lo v }
  | .hl, v => { s with h := hi v, l := lo v }
  | .sp, v => { s with sp := v }

/-! ### The stack -/

/-- `Push16(v)`: SP is decremented before each byte write, the high byte first (R46). -/
def State.push16 (s : State) (v : Word) : State :=
  let s1 := { s with sp := s.sp - 1 }
  let s2 := s1.write s1.sp (hi v)
  let s3 := { s2 with sp := s2.sp - 1 }
  s3.write s3.sp (lo v)

/-- `Pop16()`: SP is incremented after each byte read, the low byte first (R47). -/
def State.pop16 (s : State) : Word × State :=
  let low := s.read s.sp
  let s1 := { s with sp := s.sp + 1 }
  let high := s1.read s1.sp
  (cat high low, { s1 with sp := s1.sp + 1 })

/-! ### Taking an interrupt, and the return from one -/

/-- `pending = IE & IF & 0x1F`, read from the bus (R181). -/
def State.pending (s : State) : Byte := s.read Config.ieAddr &&& s.read Config.ifAddr &&& Config.irqMask

/-- The lowest set bit of the pending sources, of the five there are (R180, R182). -/
def lowestSource (p : Byte) : Nat :=
  if p.getLsbD 0 then 0 else if p.getLsbD 1 then 1 else if p.getLsbD 2 then 2 else if p.getLsbD 3 then 3 else 4

/-- `dispatch()`: IME is cleared, the request acknowledged in IF, PC pushed, and PC set to the vector (R183). -/
def State.dispatch (s : State) : State :=
  let source := lowestSource s.pending
  let s1 := { s with ime := false }
  let s2 := s1.write Config.ifAddr (s1.read Config.ifAddr &&& ~~~((1 : Byte) <<< source))
  let s3 := s2.push16 s2.pc
  { s3 with pc := Config.vectorBase + BitVec.ofNat 16 (8 * source) }

/-- The return from a handler, `pc <- Pop16(); ime <- 1` (R184; spec/45_control.md R166). -/
def State.returnFromInterrupt (s : State) : State :=
  let p := s.pop16
  { p.2 with pc := p.1, ime := true }

end Sys2Proof.Machine
end

