-- ==== Sys2Proof/Machine/Flags.lean ====
section
/-! DEFINITION. The flag computation unit (spec/42_alu8.md R117, R118), the flags of F (spec/10_state.md R17) and
the bit functions of the rotates and shifts (spec/44_rotate_shift_bit.md R142 to R153). Sums and differences are
exact, over the integers, and narrowed at the end (spec/00_scope.md R9). -/

namespace Sys2Proof.Machine

/-- `F.Z = F[7]` (R17). -/
def State.zf (s : State) : Bool := s.f.getLsbD 7
/-- `F.N = F[6]` (R17). -/
def State.nf (s : State) : Bool := s.f.getLsbD 6
/-- `F.H = F[5]` (R17). -/
def State.hf (s : State) : Bool := s.f.getLsbD 5
/-- `F.C = F[4]` (R17). -/
def State.cf (s : State) : Bool := s.f.getLsbD 4

/-- `(z << 7) | (n << 6) | (h << 5) | (c << 4)`, the low nibble 0 (R118). -/
def flagByte (z n h c : Bool) : Byte :=
  (BitVec.ofNat 8 (bit z) <<< 7) ||| (BitVec.ofNat 8 (bit n) <<< 6) |||
  (BitVec.ofNat 8 (bit h) <<< 5) ||| (BitVec.ofNat 8 (bit c) <<< 4)

/-- `flags(z, n, h, c)`: `none` is the spec's `-`, which keeps the flag (R118). -/
def State.flags (s : State) (z n h c : Option Bool) : State :=
  { s with f := flagByte (z.getD s.zf) (n.getD s.nf) (h.getD s.hf) (c.getD s.cf) }

/-- An 8-bit result with the flags it computes (R117). -/
structure Alu8 where
  r : Byte
  z : Bool
  h : Bool
  c : Bool
  deriving DecidableEq, Repr

/-- A 16-bit result with the flags it computes (R117). -/
structure Alu16 where
  r : Word
  h : Bool
  c : Bool
  deriving DecidableEq, Repr

/-- `add8(a, b, cin)` (R117). -/
def add8 (a b : Byte) (cin : Bool) : Alu8 :=
  let s := a.toNat + b.toNat + bit cin
  let r := BitVec.ofNat 8 s
  { r := r
    z := r == 0
    h := decide ((a &&& 0x0F).toNat + (b &&& 0x0F).toNat + bit cin > 0x0F)
    c := decide (s > 0xFF) }

/-- `sub8(a, b, cin)` (R117); for a subtraction a carry is a borrow. -/
def sub8 (a b : Byte) (cin : Bool) : Alu8 :=
  let d : Int := (a.toNat : Int) - b.toNat - bit cin
  let r := BitVec.ofInt 8 d
  { r := r
    z := r == 0
    h := decide (((a &&& 0x0F).toNat : Int) - (b &&& 0x0F).toNat - bit cin < 0)
    c := decide (d < 0) }

/-- `add16(a, b)`: the half-carry is the carry out of bit `HC16_BIT` (R117). -/
def add16 (a b : Word) : Alu16 :=
  let s := a.toNat + b.toNat
  let m := 2 ^ (Config.hc16Bit + 1) - 1
  { r := BitVec.ofNat 16 s
    h := decide ((a &&& BitVec.ofNat 16 m).toNat + (b &&& BitVec.ofNat 16 m).toNat > m)
    c := decide (s > 0xFFFF) }

/-- `addsp(sp, e)`: the offset is signed, and the flags come from the unsigned add of the low byte (R117). -/
def addsp (sp : Word) (e : Byte) : Alu16 :=
  { r := sp + sext16 e
    h := decide ((sp &&& 0x0F).toNat + (e &&& 0x0F).toNat > 0x0F)
    c := decide ((sp &&& 0xFF).toNat + e.toNat > 0xFF) }

/-- The adjustment DAA makes to A and the carry it leaves, from the old A, N, H and C
(spec/42_alu8.md R132). Both tests of the addition branch read the original A. -/
def daaAdjust (a : Byte) (n h c : Bool) : Byte × Bool :=
  if n then
    (a - ((if h then 0x06 else 0) ||| (if c then 0x60 else 0)), c)
  else
    let high := c || decide (a > 0x99)
    (a + ((if h || decide (a &&& 0x0F > 0x09) then 0x06 else 0) ||| (if high then 0x60 else 0)), high)

/-! The byte functions of the rotates and shifts: the result and the bit shifted out. -/

/-- A carry moved into bit 0. -/
def carryLow (c : Bool) : Byte := BitVec.ofNat 8 (bit c)
/-- A carry moved into bit 7. -/
def carryHigh (c : Bool) : Byte := BitVec.ofNat 8 (bit c) <<< 7

/-- Rotate left (R142, R146). -/
def rlcByte (v : Byte) : Byte × Bool := ((v <<< 1) ||| carryLow (v.getLsbD 7), v.getLsbD 7)
/-- Rotate right (R143, R147). -/
def rrcByte (v : Byte) : Byte × Bool := ((v >>> 1) ||| carryHigh (v.getLsbD 0), v.getLsbD 0)
/-- Rotate left through the carry (R144, R148). -/
def rlByte (cin : Bool) (v : Byte) : Byte × Bool := ((v <<< 1) ||| carryLow cin, v.getLsbD 7)
/-- Rotate right through the carry (R145, R149). -/
def rrByte (cin : Bool) (v : Byte) : Byte × Bool := ((v >>> 1) ||| carryHigh cin, v.getLsbD 0)
/-- Shift left, a 0 into bit 0 (R150). -/
def slaByte (v : Byte) : Byte × Bool := (v <<< 1, v.getLsbD 7)
/-- Shift right, bit 7 kept (R151). -/
def sraByte (v : Byte) : Byte × Bool := ((v >>> 1) ||| (v &&& 0x80), v.getLsbD 0)
/-- Exchange the nibbles; the carry is cleared (R152). -/
def swapByte (v : Byte) : Byte × Bool := ((v <<< 4) ||| (v >>> 4), false)
/-- Shift right, a 0 into bit 7 (R153). -/
def srlByte (v : Byte) : Byte × Bool := (v >>> 1, v.getLsbD 0)

end Sys2Proof.Machine
end

