-- ==== Sys2Proof/Machine/Operands.lean ====
section
/-! DEFINITION. Argument and condition resolution (spec/40_engine.md R79 to R82) and the operand accessors `rd8` and
`wr8` (R81). -/

namespace Sys2Proof.Machine

/-- `cond(k)`, in the source's polarity (R82). -/
def State.cond (s : State) : CondKind → Bool
  | .zero => !s.zf
  | .nzero => s.zf
  | .carry => !s.cf
  | .ncarry => s.cf
  | .none => true

/-- What an argument resolves to: a location or a value (R79). -/
inductive Resolved
  | reg8 (r : Reg8)
  | reg16 (rr : Reg16)
  | mem (a : Word)
  | value8 (v : Byte)
  | value16 (w : Word)
  | truth (b : Bool)
  deriving DecidableEq, Repr

/-- `resolve` of one argument (R79). It reads registers only, and writes nothing. `NONE` resolves to the value 0
(R80). -/
def resolve (x : Arg) (s : State) : Resolved :=
  match x with
  | .r8 r => .reg8 r
  | .r16 rr => .reg16 rr
  | .ptr rr => .mem (s.reg16 rr)
  | .ptrInc => .mem (s.reg16 .hl)
  | .ptrDec => .mem (s.reg16 .hl)
  | .ioImm8 n => .mem (0xFF00 + zext16 n)
  | .ioC => .mem (0xFF00 + zext16 s.c)
  | .imm8 n => .value8 n
  | .imm16 w => .value16 w
  | .simm8 n => .value8 n
  | .ptrImm16 w => .mem w
  | .spOffset n => .value16 (s.sp + sext16 n)
  | .cond k => .truth (s.cond k)
  | .lit n => .value8 n
  | .none => .value8 0

/-- The byte of a resolved argument; one that carries no byte gives the sentinel 0, which no table entry reaches
(R80). -/
def Resolved.read8 (x : Resolved) (s : State) : Byte :=
  match x with
  | .reg8 r => s.reg8 r
  | .mem a => s.read a
  | .value8 v => v
  | .reg16 _ | .value16 _ | .truth _ => 0

/-- Write the byte of a resolved location. A value is never written (R81). -/
def Resolved.write8 (x : Resolved) (v : Byte) (s : State) : State :=
  match x with
  | .reg8 r => s.setReg8 r v
  | .mem a => s.write a v
  | .reg16 _ | .value8 _ | .value16 _ | .truth _ => s

/-- The word of a resolved argument; one that carries no word gives the sentinel 0 (R80). -/
def Resolved.read16 (x : Resolved) (s : State) : Word :=
  match x with
  | .reg16 rr => s.reg16 rr
  | .value16 w => w
  | .reg8 _ | .mem _ | .value8 _ | .truth _ => 0

/-- `rd8(a)` (R81). -/
def rd8 (x : Arg) (s : State) : Byte := (resolve x s).read8 s

/-- `wr8(a, v)` (R81). -/
def wr8 (x : Arg) (v : Byte) (s : State) : State := (resolve x s).write8 v s

/-- The word an argument gives (R79). -/
def rd16 (x : Arg) (s : State) : Word := (resolve x s).read16 s

/-- After its one access, `PTR_INC:HL` adds 1 to HL and `PTR_DEC:HL` subtracts 1 (R81). -/
def postAccess (x : Arg) (s : State) : State :=
  match x with
  | .ptrInc => s.setReg16 .hl (s.reg16 .hl + 1)
  | .ptrDec => s.setReg16 .hl (s.reg16 .hl - 1)
  | _ => s

/-- `taken`: the condition of a left-hand `COND:k`, and 1 for every other entry (R84). -/
def taken (lhs : Arg) (s : State) : Bool :=
  match lhs with
  | .cond k => s.cond k
  | _ => true

end Sys2Proof.Machine
end

