-- ==== Sys2Proof/Machine/Alu16.lean ====
section
/-! DEFINITION. 16-bit arithmetic (spec/43_alu16.md R136 to R139). -/

namespace Sys2Proof.Machine

/-- ADD HL,rr: Z is kept (R136). -/
def addHl (rr : Reg16) (s : State) : State :=
  let x := add16 (s.reg16 .hl) (s.reg16 rr)
  (s.setReg16 .hl x.r).flags none (some false) (some x.h) (some x.c)

/-- INC rr: F is not written (R137). -/
def inc16 (rr : Reg16) (s : State) : State := s.setReg16 rr (s.reg16 rr + 1)

/-- DEC rr: F is not written (R138). -/
def dec16 (rr : Reg16) (s : State) : State := s.setReg16 rr (s.reg16 rr - 1)

/-- ADD SP,e8, with the flags of `addsp` (R139). -/
def addSp (x : Arg) (s : State) : State :=
  let y := addsp s.sp (rd8 x s)
  State.flags { s with sp := y.r } (some false) (some false) (some y.h) (some y.c)

/-! ### The instructions -/

/-- 0x03, INC BC (R137). -/
def exec_inc_bc (s : State) : Out :=
  .next (inc16 .bc s)

/-- 0x09, ADD HL,BC (R136). -/
def exec_add_hl_bc (s : State) : Out :=
  .next (addHl .bc s)

/-- 0x0B, DEC BC (R138). -/
def exec_dec_bc (s : State) : Out :=
  .next (dec16 .bc s)

/-- 0x13, INC DE (R137). -/
def exec_inc_de (s : State) : Out :=
  .next (inc16 .de s)

/-- 0x19, ADD HL,DE (R136). -/
def exec_add_hl_de (s : State) : Out :=
  .next (addHl .de s)

/-- 0x1B, DEC DE (R138). -/
def exec_dec_de (s : State) : Out :=
  .next (dec16 .de s)

/-- 0x23, INC HL (R137). -/
def exec_inc_hl (s : State) : Out :=
  .next (inc16 .hl s)

/-- 0x29, ADD HL,HL (R136). -/
def exec_add_hl_hl (s : State) : Out :=
  .next (addHl .hl s)

/-- 0x2B, DEC HL (R138). -/
def exec_dec_hl (s : State) : Out :=
  .next (dec16 .hl s)

/-- 0x33, INC SP (R137). -/
def exec_inc_sp (s : State) : Out :=
  .next (inc16 .sp s)

/-- 0x39, ADD HL,SP (R136). -/
def exec_add_hl_sp (s : State) : Out :=
  .next (addHl .sp s)

/-- 0x3B, DEC SP (R138). -/
def exec_dec_sp (s : State) : Out :=
  .next (dec16 .sp s)

/-- 0xE8, ADD SP,e8 (R139). -/
def exec_add_sp_e8 (n : Byte) (s : State) : Out :=
  .next (addSp (.simm8 n) s)

end Sys2Proof.Machine
end

