-- ==== Sys2Proof/Machine/Alu8.lean ====
section
/-! DEFINITION. The 8-bit ALU (spec/42_alu8.md R119 to R135). -/

namespace Sys2Proof.Machine

/-- Write A and all four flags. -/
def State.setAcc (s : State) (r : Byte) (z n h c : Bool) : State :=
  State.flags { s with a := r } (some z) (some n) (some h) (some c)

/-- ADD A,src (R120). -/
def addA (src : Arg) (s : State) : State :=
  let x := add8 s.a (rd8 src s) false
  s.setAcc x.r x.z false x.h x.c

/-- ADC A,src (R121). -/
def adcA (src : Arg) (s : State) : State :=
  let x := add8 s.a (rd8 src s) s.cf
  s.setAcc x.r x.z false x.h x.c

/-- SUB A,src (R122). -/
def subA (src : Arg) (s : State) : State :=
  let x := sub8 s.a (rd8 src s) false
  s.setAcc x.r x.z true x.h x.c

/-- SBC A,src (R123). -/
def sbcA (src : Arg) (s : State) : State :=
  let x := sub8 s.a (rd8 src s) s.cf
  s.setAcc x.r x.z true x.h x.c

/-- CP A,src: SUB without the result (R124). -/
def cpA (src : Arg) (s : State) : State :=
  let x := sub8 s.a (rd8 src s) false
  s.flags (some x.z) (some true) (some x.h) (some x.c)

/-- AND A,src: H is always set (R125). -/
def andA (src : Arg) (s : State) : State :=
  let r := s.a &&& rd8 src s
  s.setAcc r (r == 0) false true false

/-- XOR A,src (R126). -/
def xorA (src : Arg) (s : State) : State :=
  let r := s.a ^^^ rd8 src s
  s.setAcc r (r == 0) false false false

/-- OR A,src (R127). -/
def orA (src : Arg) (s : State) : State :=
  let r := s.a ||| rd8 src s
  s.setAcc r (r == 0) false false false

/-- INC r and INC (HL): C is kept (R128, R129). -/
def inc8 (t : Arg) (s : State) : State :=
  let x := add8 (rd8 t s) 1 false
  (wr8 t x.r s).flags (some x.z) (some false) (some x.h) none

/-- DEC r and DEC (HL): C is kept (R130, R131). -/
def dec8 (t : Arg) (s : State) : State :=
  let x := sub8 (rd8 t s) 1 false
  (wr8 t x.r s).flags (some x.z) (some true) (some x.h) none

/-- DAA: N is kept, H cleared (R132). -/
def daa (s : State) : State :=
  let x := daaAdjust s.a s.nf s.hf s.cf
  State.flags { s with a := x.1 } (some (x.1 == 0)) none (some false) (some x.2)

/-- CPL (R133). -/
def cpl (s : State) : State := State.flags { s with a := s.a ^^^ 0xFF } none (some true) (some true) none

/-- SCF (R134). -/
def scf (s : State) : State := s.flags none (some false) (some false) (some true)

/-- CCF (R135). -/
def ccf (s : State) : State := s.flags none (some false) (some false) (some !s.cf)

/-! ### The instructions -/

/-- 0x04, INC B (R128). -/
def exec_inc_b (s : State) : Out :=
  .next (inc8 (.r8 .b) s)

/-- 0x05, DEC B (R130). -/
def exec_dec_b (s : State) : Out :=
  .next (dec8 (.r8 .b) s)

/-- 0x0C, INC C (R128). -/
def exec_inc_c (s : State) : Out :=
  .next (inc8 (.r8 .c) s)

/-- 0x0D, DEC C (R130). -/
def exec_dec_c (s : State) : Out :=
  .next (dec8 (.r8 .c) s)

/-- 0x14, INC D (R128). -/
def exec_inc_d (s : State) : Out :=
  .next (inc8 (.r8 .d) s)

/-- 0x15, DEC D (R130). -/
def exec_dec_d (s : State) : Out :=
  .next (dec8 (.r8 .d) s)

/-- 0x1C, INC E (R128). -/
def exec_inc_e (s : State) : Out :=
  .next (inc8 (.r8 .e) s)

/-- 0x1D, DEC E (R130). -/
def exec_dec_e (s : State) : Out :=
  .next (dec8 (.r8 .e) s)

/-- 0x24, INC H (R128). -/
def exec_inc_h (s : State) : Out :=
  .next (inc8 (.r8 .h) s)

/-- 0x25, DEC H (R130). -/
def exec_dec_h (s : State) : Out :=
  .next (dec8 (.r8 .h) s)

/-- 0x27, DAA (R132). -/
def exec_daa (s : State) : Out :=
  .next (daa s)

/-- 0x2C, INC L (R128). -/
def exec_inc_l (s : State) : Out :=
  .next (inc8 (.r8 .l) s)

/-- 0x2D, DEC L (R130). -/
def exec_dec_l (s : State) : Out :=
  .next (dec8 (.r8 .l) s)

/-- 0x2F, CPL (R133). -/
def exec_cpl (s : State) : Out :=
  .next (cpl s)

/-- 0x34, INC (HL) (R129). -/
def exec_inc_mhl (s : State) : Out :=
  .next (inc8 (.ptr .hl) s)

/-- 0x35, DEC (HL) (R131). -/
def exec_dec_mhl (s : State) : Out :=
  .next (dec8 (.ptr .hl) s)

/-- 0x37, SCF (R134). -/
def exec_scf (s : State) : Out :=
  .next (scf s)

/-- 0x3C, INC A (R128). -/
def exec_inc_a (s : State) : Out :=
  .next (inc8 (.r8 .a) s)

/-- 0x3D, DEC A (R130). -/
def exec_dec_a (s : State) : Out :=
  .next (dec8 (.r8 .a) s)

/-- 0x3F, CCF (R135). -/
def exec_ccf (s : State) : Out :=
  .next (ccf s)

/-- 0x80, ADD A,B (R120). -/
def exec_add_a_b (s : State) : Out :=
  .next (addA (.r8 .b) s)

/-- 0x81, ADD A,C (R120). -/
def exec_add_a_c (s : State) : Out :=
  .next (addA (.r8 .c) s)

/-- 0x82, ADD A,D (R120). -/
def exec_add_a_d (s : State) : Out :=
  .next (addA (.r8 .d) s)

/-- 0x83, ADD A,E (R120). -/
def exec_add_a_e (s : State) : Out :=
  .next (addA (.r8 .e) s)

/-- 0x84, ADD A,H (R120). -/
def exec_add_a_h (s : State) : Out :=
  .next (addA (.r8 .h) s)

/-- 0x85, ADD A,L (R120). -/
def exec_add_a_l (s : State) : Out :=
  .next (addA (.r8 .l) s)

/-- 0x86, ADD A,(HL) (R120). -/
def exec_add_a_mhl (s : State) : Out :=
  .next (addA (.ptr .hl) s)

/-- 0x87, ADD A,A (R120). -/
def exec_add_a_a (s : State) : Out :=
  .next (addA (.r8 .a) s)

/-- 0x88, ADC A,B (R121). -/
def exec_adc_a_b (s : State) : Out :=
  .next (adcA (.r8 .b) s)

/-- 0x89, ADC A,C (R121). -/
def exec_adc_a_c (s : State) : Out :=
  .next (adcA (.r8 .c) s)

/-- 0x8A, ADC A,D (R121). -/
def exec_adc_a_d (s : State) : Out :=
  .next (adcA (.r8 .d) s)

/-- 0x8B, ADC A,E (R121). -/
def exec_adc_a_e (s : State) : Out :=
  .next (adcA (.r8 .e) s)

/-- 0x8C, ADC A,H (R121). -/
def exec_adc_a_h (s : State) : Out :=
  .next (adcA (.r8 .h) s)

/-- 0x8D, ADC A,L (R121). -/
def exec_adc_a_l (s : State) : Out :=
  .next (adcA (.r8 .l) s)

/-- 0x8E, ADC A,(HL) (R121). -/
def exec_adc_a_mhl (s : State) : Out :=
  .next (adcA (.ptr .hl) s)

/-- 0x8F, ADC A,A (R121). -/
def exec_adc_a_a (s : State) : Out :=
  .next (adcA (.r8 .a) s)

/-- 0x90, SUB A,B (R122). -/
def exec_sub_a_b (s : State) : Out :=
  .next (subA (.r8 .b) s)

/-- 0x91, SUB A,C (R122). -/
def exec_sub_a_c (s : State) : Out :=
  .next (subA (.r8 .c) s)

/-- 0x92, SUB A,D (R122). -/
def exec_sub_a_d (s : State) : Out :=
  .next (subA (.r8 .d) s)

/-- 0x93, SUB A,E (R122). -/
def exec_sub_a_e (s : State) : Out :=
  .next (subA (.r8 .e) s)

/-- 0x94, SUB A,H (R122). -/
def exec_sub_a_h (s : State) : Out :=
  .next (subA (.r8 .h) s)

/-- 0x95, SUB A,L (R122). -/
def exec_sub_a_l (s : State) : Out :=
  .next (subA (.r8 .l) s)

/-- 0x96, SUB A,(HL) (R122). -/
def exec_sub_a_mhl (s : State) : Out :=
  .next (subA (.ptr .hl) s)

/-- 0x97, SUB A,A (R122). -/
def exec_sub_a_a (s : State) : Out :=
  .next (subA (.r8 .a) s)

/-- 0x98, SBC A,B (R123). -/
def exec_sbc_a_b (s : State) : Out :=
  .next (sbcA (.r8 .b) s)

/-- 0x99, SBC A,C (R123). -/
def exec_sbc_a_c (s : State) : Out :=
  .next (sbcA (.r8 .c) s)

/-- 0x9A, SBC A,D (R123). -/
def exec_sbc_a_d (s : State) : Out :=
  .next (sbcA (.r8 .d) s)

/-- 0x9B, SBC A,E (R123). -/
def exec_sbc_a_e (s : State) : Out :=
  .next (sbcA (.r8 .e) s)

/-- 0x9C, SBC A,H (R123). -/
def exec_sbc_a_h (s : State) : Out :=
  .next (sbcA (.r8 .h) s)

/-- 0x9D, SBC A,L (R123). -/
def exec_sbc_a_l (s : State) : Out :=
  .next (sbcA (.r8 .l) s)

/-- 0x9E, SBC A,(HL) (R123). -/
def exec_sbc_a_mhl (s : State) : Out :=
  .next (sbcA (.ptr .hl) s)

/-- 0x9F, SBC A,A (R123). -/
def exec_sbc_a_a (s : State) : Out :=
  .next (sbcA (.r8 .a) s)

/-- 0xA0, AND A,B (R125). -/
def exec_and_a_b (s : State) : Out :=
  .next (andA (.r8 .b) s)

/-- 0xA1, AND A,C (R125). -/
def exec_and_a_c (s : State) : Out :=
  .next (andA (.r8 .c) s)

/-- 0xA2, AND A,D (R125). -/
def exec_and_a_d (s : State) : Out :=
  .next (andA (.r8 .d) s)

/-- 0xA3, AND A,E (R125). -/
def exec_and_a_e (s : State) : Out :=
  .next (andA (.r8 .e) s)

/-- 0xA4, AND A,H (R125). -/
def exec_and_a_h (s : State) : Out :=
  .next (andA (.r8 .h) s)

/-- 0xA5, AND A,L (R125). -/
def exec_and_a_l (s : State) : Out :=
  .next (andA (.r8 .l) s)

/-- 0xA6, AND A,(HL) (R125). -/
def exec_and_a_mhl (s : State) : Out :=
  .next (andA (.ptr .hl) s)

/-- 0xA7, AND A,A (R125). -/
def exec_and_a_a (s : State) : Out :=
  .next (andA (.r8 .a) s)

/-- 0xA8, XOR A,B (R126). -/
def exec_xor_a_b (s : State) : Out :=
  .next (xorA (.r8 .b) s)

/-- 0xA9, XOR A,C (R126). -/
def exec_xor_a_c (s : State) : Out :=
  .next (xorA (.r8 .c) s)

/-- 0xAA, XOR A,D (R126). -/
def exec_xor_a_d (s : State) : Out :=
  .next (xorA (.r8 .d) s)

/-- 0xAB, XOR A,E (R126). -/
def exec_xor_a_e (s : State) : Out :=
  .next (xorA (.r8 .e) s)

/-- 0xAC, XOR A,H (R126). -/
def exec_xor_a_h (s : State) : Out :=
  .next (xorA (.r8 .h) s)

/-- 0xAD, XOR A,L (R126). -/
def exec_xor_a_l (s : State) : Out :=
  .next (xorA (.r8 .l) s)

/-- 0xAE, XOR A,(HL) (R126). -/
def exec_xor_a_mhl (s : State) : Out :=
  .next (xorA (.ptr .hl) s)

/-- 0xAF, XOR A,A (R126). -/
def exec_xor_a_a (s : State) : Out :=
  .next (xorA (.r8 .a) s)

/-- 0xB0, OR A,B (R127). -/
def exec_or_a_b (s : State) : Out :=
  .next (orA (.r8 .b) s)

/-- 0xB1, OR A,C (R127). -/
def exec_or_a_c (s : State) : Out :=
  .next (orA (.r8 .c) s)

/-- 0xB2, OR A,D (R127). -/
def exec_or_a_d (s : State) : Out :=
  .next (orA (.r8 .d) s)

/-- 0xB3, OR A,E (R127). -/
def exec_or_a_e (s : State) : Out :=
  .next (orA (.r8 .e) s)

/-- 0xB4, OR A,H (R127). -/
def exec_or_a_h (s : State) : Out :=
  .next (orA (.r8 .h) s)

/-- 0xB5, OR A,L (R127). -/
def exec_or_a_l (s : State) : Out :=
  .next (orA (.r8 .l) s)

/-- 0xB6, OR A,(HL) (R127). -/
def exec_or_a_mhl (s : State) : Out :=
  .next (orA (.ptr .hl) s)

/-- 0xB7, OR A,A (R127). -/
def exec_or_a_a (s : State) : Out :=
  .next (orA (.r8 .a) s)

/-- 0xB8, CP A,B (R124). -/
def exec_cp_a_b (s : State) : Out :=
  .next (cpA (.r8 .b) s)

/-- 0xB9, CP A,C (R124). -/
def exec_cp_a_c (s : State) : Out :=
  .next (cpA (.r8 .c) s)

/-- 0xBA, CP A,D (R124). -/
def exec_cp_a_d (s : State) : Out :=
  .next (cpA (.r8 .d) s)

/-- 0xBB, CP A,E (R124). -/
def exec_cp_a_e (s : State) : Out :=
  .next (cpA (.r8 .e) s)

/-- 0xBC, CP A,H (R124). -/
def exec_cp_a_h (s : State) : Out :=
  .next (cpA (.r8 .h) s)

/-- 0xBD, CP A,L (R124). -/
def exec_cp_a_l (s : State) : Out :=
  .next (cpA (.r8 .l) s)

/-- 0xBE, CP A,(HL) (R124). -/
def exec_cp_a_mhl (s : State) : Out :=
  .next (cpA (.ptr .hl) s)

/-- 0xBF, CP A,A (R124). -/
def exec_cp_a_a (s : State) : Out :=
  .next (cpA (.r8 .a) s)

/-- 0xC6, ADD A,d8 (R120). -/
def exec_add_a_d8 (n : Byte) (s : State) : Out :=
  .next (addA (.imm8 n) s)

/-- 0xCE, ADC A,d8 (R121). -/
def exec_adc_a_d8 (n : Byte) (s : State) : Out :=
  .next (adcA (.imm8 n) s)

/-- 0xD6, SUB A,d8 (R122). -/
def exec_sub_a_d8 (n : Byte) (s : State) : Out :=
  .next (subA (.imm8 n) s)

/-- 0xDE, SBC A,d8 (R123). -/
def exec_sbc_a_d8 (n : Byte) (s : State) : Out :=
  .next (sbcA (.imm8 n) s)

/-- 0xE6, AND A,d8 (R125). -/
def exec_and_a_d8 (n : Byte) (s : State) : Out :=
  .next (andA (.imm8 n) s)

/-- 0xEE, XOR A,d8 (R126). -/
def exec_xor_a_d8 (n : Byte) (s : State) : Out :=
  .next (xorA (.imm8 n) s)

/-- 0xF6, OR A,d8 (R127). -/
def exec_or_a_d8 (n : Byte) (s : State) : Out :=
  .next (orA (.imm8 n) s)

/-- 0xFE, CP A,d8 (R124). -/
def exec_cp_a_d8 (n : Byte) (s : State) : Out :=
  .next (cpA (.imm8 n) s)

end Sys2Proof.Machine
end

