-- ==== Sys2Proof/Machine/Control.lean ====
section
/-! DEFINITION. Control transfer (spec/45_control.md R157 to R167). PC is the post-fetch PC: every relative target
and every return address is measured from it (spec/40_engine.md R85). -/

namespace Sys2Proof.Machine

/-- JR e8 and JR cc,e8 (R157, R158). -/
def jr (lhs rhs : Arg) (s : State) : State :=
  if taken lhs s then { s with pc := s.pc + sext16 (rd8 rhs s) } else s

/-- JP a16 and JP cc,a16 (R159, R160). -/
def jp (lhs rhs : Arg) (s : State) : State :=
  if taken lhs s then { s with pc := rd16 rhs s } else s

/-- JP HL: the target is the register value, no memory is read (R161). -/
def jpHl (s : State) : State := { s with pc := s.reg16 .hl }

/-- CALL a16 and CALL cc,a16: the push comes before PC is written (R162, R163). -/
def call (lhs rhs : Arg) (s : State) : State :=
  if taken lhs s then { s.push16 s.pc with pc := rd16 rhs s } else s

/-- RET and RET cc (R164, R165). -/
def ret (lhs : Arg) (s : State) : State :=
  if taken lhs s then
    let p := s.pop16
    { p.2 with pc := p.1 }
  else s

/-- RETI: IME is set with no delay (R166). -/
def reti (s : State) : State := s.returnFromInterrupt

/-- RST n (R167). -/
def rst (lhs : Arg) (s : State) : State := { s.push16 s.pc with pc := zext16 (rd8 lhs s) }

/-! ### The instructions -/

/-- 0x18, JR e8 (R157). -/
def exec_jr_e8 (n : Byte) (s : State) : Out :=
  .next (jr (.cond .none) (.simm8 n) s)

/-- 0x20, JR NZ,e8 (R158). -/
def exec_jr_nz_e8 (n : Byte) (s : State) : Out :=
  .next (jr (.cond .nzero) (.simm8 n) s)

/-- 0x28, JR Z,e8 (R158). -/
def exec_jr_z_e8 (n : Byte) (s : State) : Out :=
  .next (jr (.cond .zero) (.simm8 n) s)

/-- 0x30, JR NC,e8 (R158). -/
def exec_jr_nc_e8 (n : Byte) (s : State) : Out :=
  .next (jr (.cond .ncarry) (.simm8 n) s)

/-- 0x38, JR C,e8 (R158). -/
def exec_jr_c_e8 (n : Byte) (s : State) : Out :=
  .next (jr (.cond .carry) (.simm8 n) s)

/-- 0xC0, RET NZ (R165). -/
def exec_ret_nz (s : State) : Out :=
  .next (ret (.cond .nzero) s)

/-- 0xC2, JP NZ,a16 (R160). -/
def exec_jp_nz_a16 (w : Word) (s : State) : Out :=
  .next (jp (.cond .nzero) (.imm16 w) s)

/-- 0xC3, JP a16 (R159). -/
def exec_jp_a16 (w : Word) (s : State) : Out :=
  .next (jp (.cond .none) (.imm16 w) s)

/-- 0xC4, CALL NZ,a16 (R163). -/
def exec_call_nz_a16 (w : Word) (s : State) : Out :=
  .next (call (.cond .nzero) (.imm16 w) s)

/-- 0xC7, RST 0x00 (R167). -/
def exec_rst_00 (s : State) : Out :=
  .next (rst (.lit 0x00) s)

/-- 0xC8, RET Z (R165). -/
def exec_ret_z (s : State) : Out :=
  .next (ret (.cond .zero) s)

/-- 0xC9, RET (R164). -/
def exec_ret (s : State) : Out :=
  .next (ret (.cond .none) s)

/-- 0xCA, JP Z,a16 (R160). -/
def exec_jp_z_a16 (w : Word) (s : State) : Out :=
  .next (jp (.cond .zero) (.imm16 w) s)

/-- 0xCC, CALL Z,a16 (R163). -/
def exec_call_z_a16 (w : Word) (s : State) : Out :=
  .next (call (.cond .zero) (.imm16 w) s)

/-- 0xCD, CALL a16 (R162). -/
def exec_call_a16 (w : Word) (s : State) : Out :=
  .next (call (.cond .none) (.imm16 w) s)

/-- 0xCF, RST 0x08 (R167). -/
def exec_rst_08 (s : State) : Out :=
  .next (rst (.lit 0x08) s)

/-- 0xD0, RET NC (R165). -/
def exec_ret_nc (s : State) : Out :=
  .next (ret (.cond .ncarry) s)

/-- 0xD2, JP NC,a16 (R160). -/
def exec_jp_nc_a16 (w : Word) (s : State) : Out :=
  .next (jp (.cond .ncarry) (.imm16 w) s)

/-- 0xD4, CALL NC,a16 (R163). -/
def exec_call_nc_a16 (w : Word) (s : State) : Out :=
  .next (call (.cond .ncarry) (.imm16 w) s)

/-- 0xD7, RST 0x10 (R167). -/
def exec_rst_10 (s : State) : Out :=
  .next (rst (.lit 0x10) s)

/-- 0xD8, RET C (R165). -/
def exec_ret_c (s : State) : Out :=
  .next (ret (.cond .carry) s)

/-- 0xD9, RETI (R166). -/
def exec_reti (s : State) : Out :=
  .next (reti s)

/-- 0xDA, JP C,a16 (R160). -/
def exec_jp_c_a16 (w : Word) (s : State) : Out :=
  .next (jp (.cond .carry) (.imm16 w) s)

/-- 0xDC, CALL C,a16 (R163). -/
def exec_call_c_a16 (w : Word) (s : State) : Out :=
  .next (call (.cond .carry) (.imm16 w) s)

/-- 0xDF, RST 0x18 (R167). -/
def exec_rst_18 (s : State) : Out :=
  .next (rst (.lit 0x18) s)

/-- 0xE7, RST 0x20 (R167). -/
def exec_rst_20 (s : State) : Out :=
  .next (rst (.lit 0x20) s)

/-- 0xE9, JP HL (R161). -/
def exec_jp_hl (s : State) : Out :=
  .next (jpHl s)

/-- 0xEF, RST 0x28 (R167). -/
def exec_rst_28 (s : State) : Out :=
  .next (rst (.lit 0x28) s)

/-- 0xF7, RST 0x30 (R167). -/
def exec_rst_30 (s : State) : Out :=
  .next (rst (.lit 0x30) s)

/-- 0xFF, RST 0x38 (R167). -/
def exec_rst_38 (s : State) : Out :=
  .next (rst (.lit 0x38) s)

end Sys2Proof.Machine
end

