-- ==== Sys2Proof/Machine/Loads.lean ====
section
/-! DEFINITION. Loads, stores and stack transfers (spec/41_loads.md R93 to R116). -/

namespace Sys2Proof.Machine

/-- The 8-bit loads: the right-hand byte goes to the left-hand location, and a post-incremented or
post-decremented HL changes after its one access (R93 to R109; spec/40_engine.md R81). -/
def ld8 (lhs rhs : Arg) (s : State) : State :=
  let v := rd8 rhs s
  postAccess lhs (postAccess rhs (wr8 lhs v s))

/-- LD rr,d16 and LD SP,HL (R110, R112). -/
def ld16 (rr : Reg16) (rhs : Arg) (s : State) : State := s.setReg16 rr (rd16 rhs s)

/-- LD (a16),SP: the low byte at a16, then the high byte at a16 + 1 (R111). -/
def ldStoreSp (w : Word) (s : State) : State := s.write16 w s.sp

/-- LD HL,SP+e8, with the flags of `addsp` (R113). -/
def ldHlSp (n : Byte) (s : State) : State :=
  let x := addsp s.sp n
  (s.setReg16 .hl x.r).flags (some false) (some false) (some x.h) (some x.c)

/-- PUSH rr (R114). -/
def push (rr : Reg16) (s : State) : State := s.push16 (s.reg16 rr)

/-- POP rr (R115); for AF the low nibble of F stays 0 (R116). -/
def pop (rr : Reg16) (s : State) : State :=
  let p := s.pop16
  p.2.setReg16 rr p.1

/-! ### The instructions -/

/-- 0x01, LD BC,d16 (R110). -/
def exec_ld_bc_d16 (w : Word) (s : State) : Out :=
  .next (ld16 .bc (.imm16 w) s)

/-- 0x02, LD (BC),A (R99). -/
def exec_ld_mbc_a (s : State) : Out :=
  .next (ld8 (.ptr .bc) (.r8 .a) s)

/-- 0x06, LD B,d8 (R96). -/
def exec_ld_b_d8 (n : Byte) (s : State) : Out :=
  .next (ld8 (.r8 .b) (.imm8 n) s)

/-- 0x08, LD (a16),SP (R111). -/
def exec_ld_ma16_sp (w : Word) (s : State) : Out :=
  .next (ldStoreSp w s)

/-- 0x0A, LD A,(BC) (R98). -/
def exec_ld_a_mbc (s : State) : Out :=
  .next (ld8 (.r8 .a) (.ptr .bc) s)

/-- 0x0E, LD C,d8 (R96). -/
def exec_ld_c_d8 (n : Byte) (s : State) : Out :=
  .next (ld8 (.r8 .c) (.imm8 n) s)

/-- 0x11, LD DE,d16 (R110). -/
def exec_ld_de_d16 (w : Word) (s : State) : Out :=
  .next (ld16 .de (.imm16 w) s)

/-- 0x12, LD (DE),A (R99). -/
def exec_ld_mde_a (s : State) : Out :=
  .next (ld8 (.ptr .de) (.r8 .a) s)

/-- 0x16, LD D,d8 (R96). -/
def exec_ld_d_d8 (n : Byte) (s : State) : Out :=
  .next (ld8 (.r8 .d) (.imm8 n) s)

/-- 0x1A, LD A,(DE) (R98). -/
def exec_ld_a_mde (s : State) : Out :=
  .next (ld8 (.r8 .a) (.ptr .de) s)

/-- 0x1E, LD E,d8 (R96). -/
def exec_ld_e_d8 (n : Byte) (s : State) : Out :=
  .next (ld8 (.r8 .e) (.imm8 n) s)

/-- 0x21, LD HL,d16 (R110). -/
def exec_ld_hl_d16 (w : Word) (s : State) : Out :=
  .next (ld16 .hl (.imm16 w) s)

/-- 0x22, LD (HL+),A (R102). -/
def exec_ld_mhli_a (s : State) : Out :=
  .next (ld8 .ptrInc (.r8 .a) s)

/-- 0x26, LD H,d8 (R96). -/
def exec_ld_h_d8 (n : Byte) (s : State) : Out :=
  .next (ld8 (.r8 .h) (.imm8 n) s)

/-- 0x2A, LD A,(HL+) (R100). -/
def exec_ld_a_mhli (s : State) : Out :=
  .next (ld8 (.r8 .a) .ptrInc s)

/-- 0x2E, LD L,d8 (R96). -/
def exec_ld_l_d8 (n : Byte) (s : State) : Out :=
  .next (ld8 (.r8 .l) (.imm8 n) s)

/-- 0x31, LD SP,d16 (R110). -/
def exec_ld_sp_d16 (w : Word) (s : State) : Out :=
  .next (ld16 .sp (.imm16 w) s)

/-- 0x32, LD (HL-),A (R103). -/
def exec_ld_mhld_a (s : State) : Out :=
  .next (ld8 .ptrDec (.r8 .a) s)

/-- 0x36, LD (HL),d8 (R97). -/
def exec_ld_mhl_d8 (n : Byte) (s : State) : Out :=
  .next (ld8 (.ptr .hl) (.imm8 n) s)

/-- 0x3A, LD A,(HL-) (R101). -/
def exec_ld_a_mhld (s : State) : Out :=
  .next (ld8 (.r8 .a) .ptrDec s)

/-- 0x3E, LD A,d8 (R96). -/
def exec_ld_a_d8 (n : Byte) (s : State) : Out :=
  .next (ld8 (.r8 .a) (.imm8 n) s)

/-- 0x40, LD B,B (R93). -/
def exec_ld_b_b (s : State) : Out :=
  .next (ld8 (.r8 .b) (.r8 .b) s)

/-- 0x41, LD B,C (R93). -/
def exec_ld_b_c (s : State) : Out :=
  .next (ld8 (.r8 .b) (.r8 .c) s)

/-- 0x42, LD B,D (R93). -/
def exec_ld_b_d (s : State) : Out :=
  .next (ld8 (.r8 .b) (.r8 .d) s)

/-- 0x43, LD B,E (R93). -/
def exec_ld_b_e (s : State) : Out :=
  .next (ld8 (.r8 .b) (.r8 .e) s)

/-- 0x44, LD B,H (R93). -/
def exec_ld_b_h (s : State) : Out :=
  .next (ld8 (.r8 .b) (.r8 .h) s)

/-- 0x45, LD B,L (R93). -/
def exec_ld_b_l (s : State) : Out :=
  .next (ld8 (.r8 .b) (.r8 .l) s)

/-- 0x46, LD B,(HL) (R94). -/
def exec_ld_b_mhl (s : State) : Out :=
  .next (ld8 (.r8 .b) (.ptr .hl) s)

/-- 0x47, LD B,A (R93). -/
def exec_ld_b_a (s : State) : Out :=
  .next (ld8 (.r8 .b) (.r8 .a) s)

/-- 0x48, LD C,B (R93). -/
def exec_ld_c_b (s : State) : Out :=
  .next (ld8 (.r8 .c) (.r8 .b) s)

/-- 0x49, LD C,C (R93). -/
def exec_ld_c_c (s : State) : Out :=
  .next (ld8 (.r8 .c) (.r8 .c) s)

/-- 0x4A, LD C,D (R93). -/
def exec_ld_c_d (s : State) : Out :=
  .next (ld8 (.r8 .c) (.r8 .d) s)

/-- 0x4B, LD C,E (R93). -/
def exec_ld_c_e (s : State) : Out :=
  .next (ld8 (.r8 .c) (.r8 .e) s)

/-- 0x4C, LD C,H (R93). -/
def exec_ld_c_h (s : State) : Out :=
  .next (ld8 (.r8 .c) (.r8 .h) s)

/-- 0x4D, LD C,L (R93). -/
def exec_ld_c_l (s : State) : Out :=
  .next (ld8 (.r8 .c) (.r8 .l) s)

/-- 0x4E, LD C,(HL) (R94). -/
def exec_ld_c_mhl (s : State) : Out :=
  .next (ld8 (.r8 .c) (.ptr .hl) s)

/-- 0x4F, LD C,A (R93). -/
def exec_ld_c_a (s : State) : Out :=
  .next (ld8 (.r8 .c) (.r8 .a) s)

/-- 0x50, LD D,B (R93). -/
def exec_ld_d_b (s : State) : Out :=
  .next (ld8 (.r8 .d) (.r8 .b) s)

/-- 0x51, LD D,C (R93). -/
def exec_ld_d_c (s : State) : Out :=
  .next (ld8 (.r8 .d) (.r8 .c) s)

/-- 0x52, LD D,D (R93). -/
def exec_ld_d_d (s : State) : Out :=
  .next (ld8 (.r8 .d) (.r8 .d) s)

/-- 0x53, LD D,E (R93). -/
def exec_ld_d_e (s : State) : Out :=
  .next (ld8 (.r8 .d) (.r8 .e) s)

/-- 0x54, LD D,H (R93). -/
def exec_ld_d_h (s : State) : Out :=
  .next (ld8 (.r8 .d) (.r8 .h) s)

/-- 0x55, LD D,L (R93). -/
def exec_ld_d_l (s : State) : Out :=
  .next (ld8 (.r8 .d) (.r8 .l) s)

/-- 0x56, LD D,(HL) (R94). -/
def exec_ld_d_mhl (s : State) : Out :=
  .next (ld8 (.r8 .d) (.ptr .hl) s)

/-- 0x57, LD D,A (R93). -/
def exec_ld_d_a (s : State) : Out :=
  .next (ld8 (.r8 .d) (.r8 .a) s)

/-- 0x58, LD E,B (R93). -/
def exec_ld_e_b (s : State) : Out :=
  .next (ld8 (.r8 .e) (.r8 .b) s)

/-- 0x59, LD E,C (R93). -/
def exec_ld_e_c (s : State) : Out :=
  .next (ld8 (.r8 .e) (.r8 .c) s)

/-- 0x5A, LD E,D (R93). -/
def exec_ld_e_d (s : State) : Out :=
  .next (ld8 (.r8 .e) (.r8 .d) s)

/-- 0x5B, LD E,E (R93). -/
def exec_ld_e_e (s : State) : Out :=
  .next (ld8 (.r8 .e) (.r8 .e) s)

/-- 0x5C, LD E,H (R93). -/
def exec_ld_e_h (s : State) : Out :=
  .next (ld8 (.r8 .e) (.r8 .h) s)

/-- 0x5D, LD E,L (R93). -/
def exec_ld_e_l (s : State) : Out :=
  .next (ld8 (.r8 .e) (.r8 .l) s)

/-- 0x5E, LD E,(HL) (R94). -/
def exec_ld_e_mhl (s : State) : Out :=
  .next (ld8 (.r8 .e) (.ptr .hl) s)

/-- 0x5F, LD E,A (R93). -/
def exec_ld_e_a (s : State) : Out :=
  .next (ld8 (.r8 .e) (.r8 .a) s)

/-- 0x60, LD H,B (R93). -/
def exec_ld_h_b (s : State) : Out :=
  .next (ld8 (.r8 .h) (.r8 .b) s)

/-- 0x61, LD H,C (R93). -/
def exec_ld_h_c (s : State) : Out :=
  .next (ld8 (.r8 .h) (.r8 .c) s)

/-- 0x62, LD H,D (R93). -/
def exec_ld_h_d (s : State) : Out :=
  .next (ld8 (.r8 .h) (.r8 .d) s)

/-- 0x63, LD H,E (R93). -/
def exec_ld_h_e (s : State) : Out :=
  .next (ld8 (.r8 .h) (.r8 .e) s)

/-- 0x64, LD H,H (R93). -/
def exec_ld_h_h (s : State) : Out :=
  .next (ld8 (.r8 .h) (.r8 .h) s)

/-- 0x65, LD H,L (R93). -/
def exec_ld_h_l (s : State) : Out :=
  .next (ld8 (.r8 .h) (.r8 .l) s)

/-- 0x66, LD H,(HL) (R94). -/
def exec_ld_h_mhl (s : State) : Out :=
  .next (ld8 (.r8 .h) (.ptr .hl) s)

/-- 0x67, LD H,A (R93). -/
def exec_ld_h_a (s : State) : Out :=
  .next (ld8 (.r8 .h) (.r8 .a) s)

/-- 0x68, LD L,B (R93). -/
def exec_ld_l_b (s : State) : Out :=
  .next (ld8 (.r8 .l) (.r8 .b) s)

/-- 0x69, LD L,C (R93). -/
def exec_ld_l_c (s : State) : Out :=
  .next (ld8 (.r8 .l) (.r8 .c) s)

/-- 0x6A, LD L,D (R93). -/
def exec_ld_l_d (s : State) : Out :=
  .next (ld8 (.r8 .l) (.r8 .d) s)

/-- 0x6B, LD L,E (R93). -/
def exec_ld_l_e (s : State) : Out :=
  .next (ld8 (.r8 .l) (.r8 .e) s)

/-- 0x6C, LD L,H (R93). -/
def exec_ld_l_h (s : State) : Out :=
  .next (ld8 (.r8 .l) (.r8 .h) s)

/-- 0x6D, LD L,L (R93). -/
def exec_ld_l_l (s : State) : Out :=
  .next (ld8 (.r8 .l) (.r8 .l) s)

/-- 0x6E, LD L,(HL) (R94). -/
def exec_ld_l_mhl (s : State) : Out :=
  .next (ld8 (.r8 .l) (.ptr .hl) s)

/-- 0x6F, LD L,A (R93). -/
def exec_ld_l_a (s : State) : Out :=
  .next (ld8 (.r8 .l) (.r8 .a) s)

/-- 0x70, LD (HL),B (R95). -/
def exec_ld_mhl_b (s : State) : Out :=
  .next (ld8 (.ptr .hl) (.r8 .b) s)

/-- 0x71, LD (HL),C (R95). -/
def exec_ld_mhl_c (s : State) : Out :=
  .next (ld8 (.ptr .hl) (.r8 .c) s)

/-- 0x72, LD (HL),D (R95). -/
def exec_ld_mhl_d (s : State) : Out :=
  .next (ld8 (.ptr .hl) (.r8 .d) s)

/-- 0x73, LD (HL),E (R95). -/
def exec_ld_mhl_e (s : State) : Out :=
  .next (ld8 (.ptr .hl) (.r8 .e) s)

/-- 0x74, LD (HL),H (R95). -/
def exec_ld_mhl_h (s : State) : Out :=
  .next (ld8 (.ptr .hl) (.r8 .h) s)

/-- 0x75, LD (HL),L (R95). -/
def exec_ld_mhl_l (s : State) : Out :=
  .next (ld8 (.ptr .hl) (.r8 .l) s)

/-- 0x77, LD (HL),A (R95). -/
def exec_ld_mhl_a (s : State) : Out :=
  .next (ld8 (.ptr .hl) (.r8 .a) s)

/-- 0x78, LD A,B (R93). -/
def exec_ld_a_b (s : State) : Out :=
  .next (ld8 (.r8 .a) (.r8 .b) s)

/-- 0x79, LD A,C (R93). -/
def exec_ld_a_c (s : State) : Out :=
  .next (ld8 (.r8 .a) (.r8 .c) s)

/-- 0x7A, LD A,D (R93). -/
def exec_ld_a_d (s : State) : Out :=
  .next (ld8 (.r8 .a) (.r8 .d) s)

/-- 0x7B, LD A,E (R93). -/
def exec_ld_a_e (s : State) : Out :=
  .next (ld8 (.r8 .a) (.r8 .e) s)

/-- 0x7C, LD A,H (R93). -/
def exec_ld_a_h (s : State) : Out :=
  .next (ld8 (.r8 .a) (.r8 .h) s)

/-- 0x7D, LD A,L (R93). -/
def exec_ld_a_l (s : State) : Out :=
  .next (ld8 (.r8 .a) (.r8 .l) s)

/-- 0x7E, LD A,(HL) (R94). -/
def exec_ld_a_mhl (s : State) : Out :=
  .next (ld8 (.r8 .a) (.ptr .hl) s)

/-- 0x7F, LD A,A (R93). -/
def exec_ld_a_a (s : State) : Out :=
  .next (ld8 (.r8 .a) (.r8 .a) s)

/-- 0xC1, POP BC (R115). -/
def exec_pop_bc (s : State) : Out :=
  .next (pop .bc s)

/-- 0xC5, PUSH BC (R114). -/
def exec_push_bc (s : State) : Out :=
  .next (push .bc s)

/-- 0xD1, POP DE (R115). -/
def exec_pop_de (s : State) : Out :=
  .next (pop .de s)

/-- 0xD5, PUSH DE (R114). -/
def exec_push_de (s : State) : Out :=
  .next (push .de s)

/-- 0xE0, LDH (a8),A (R107). -/
def exec_ldh_ma8_a (n : Byte) (s : State) : Out :=
  .next (ld8 (.ioImm8 n) (.r8 .a) s)

/-- 0xE1, POP HL (R115). -/
def exec_pop_hl (s : State) : Out :=
  .next (pop .hl s)

/-- 0xE2, LD (C),A (R109). -/
def exec_ld_mc_a (s : State) : Out :=
  .next (ld8 .ioC (.r8 .a) s)

/-- 0xE5, PUSH HL (R114). -/
def exec_push_hl (s : State) : Out :=
  .next (push .hl s)

/-- 0xEA, LD (a16),A (R105). -/
def exec_ld_ma16_a (w : Word) (s : State) : Out :=
  .next (ld8 (.ptrImm16 w) (.r8 .a) s)

/-- 0xF0, LDH A,(a8) (R106). -/
def exec_ldh_a_ma8 (n : Byte) (s : State) : Out :=
  .next (ld8 (.r8 .a) (.ioImm8 n) s)

/-- 0xF1, POP AF (R116). -/
def exec_pop_af (s : State) : Out :=
  .next (pop .af s)

/-- 0xF2, LD A,(C) (R108). -/
def exec_ld_a_mc (s : State) : Out :=
  .next (ld8 (.r8 .a) .ioC s)

/-- 0xF5, PUSH AF (R114). -/
def exec_push_af (s : State) : Out :=
  .next (push .af s)

/-- 0xF8, LD HL,SP+e8 (R113). -/
def exec_ld_hl_spe8 (n : Byte) (s : State) : Out :=
  .next (ldHlSp n s)

/-- 0xF9, LD SP,HL (R112). -/
def exec_ld_sp_hl (s : State) : Out :=
  .next (ld16 .sp (.r16 .hl) s)

/-- 0xFA, LD A,(a16) (R104). -/
def exec_ld_a_ma16 (w : Word) (s : State) : Out :=
  .next (ld8 (.r8 .a) (.ptrImm16 w) s)

end Sys2Proof.Machine
end

