-- ==== Sys2Proof/Machine/Rotate.lean ====
section
/-! DEFINITION. Rotate, shift and bit operations (spec/44_rotate_shift_bit.md R140 to R156). -/

namespace Sys2Proof.Machine

/-- An accumulator rotate: Z, N and H are always cleared (spec/44_rotate_shift_bit.md section 2). -/
def rotateA (g : Byte → Byte × Bool) (s : State) : State :=
  let x := g s.a
  s.setAcc x.1 false false false x.2

/-- An extended rotate or shift: one read, one write back, Z from the result (R141 and section 3). -/
def rotate (g : Byte → Byte × Bool) (t : Arg) (s : State) : State :=
  let x := g (rd8 t s)
  (wr8 t x.1 s).flags (some (x.1 == 0)) (some false) (some false) (some x.2)

/-- RLCA (R142). -/
def rlca (s : State) : State := rotateA rlcByte s
/-- RRCA (R143). -/
def rrca (s : State) : State := rotateA rrcByte s
/-- RLA (R144). -/
def rla (s : State) : State := rotateA (rlByte s.cf) s
/-- RRA (R145). -/
def rra (s : State) : State := rotateA (rrByte s.cf) s

/-- RLC t (R146). -/
def rlc (t : Arg) (s : State) : State := rotate rlcByte t s
/-- RRC t (R147). -/
def rrc (t : Arg) (s : State) : State := rotate rrcByte t s
/-- RL t (R148). -/
def rl (t : Arg) (s : State) : State := rotate (rlByte s.cf) t s
/-- RR t (R149). -/
def rr (t : Arg) (s : State) : State := rotate (rrByte s.cf) t s
/-- SLA t (R150). -/
def sla (t : Arg) (s : State) : State := rotate slaByte t s
/-- SRA t (R151). -/
def sra (t : Arg) (s : State) : State := rotate sraByte t s
/-- SWAP t (R152). -/
def swap (t : Arg) (s : State) : State := rotate swapByte t s
/-- SRL t (R153). -/
def srl (t : Arg) (s : State) : State := rotate srlByte t s

/-- BIT b,t: C is kept and nothing is written back (R154). -/
def bitTest (t : Arg) (b : Nat) (s : State) : State :=
  s.flags (some (!(rd8 t s).getLsbD b)) (some false) (some true) none

/-- RES b,t (R155). -/
def bitReset (t : Arg) (b : Nat) (s : State) : State := wr8 t (rd8 t s &&& ~~~((1 : Byte) <<< b)) s

/-- SET b,t (R156). -/
def bitSet (t : Arg) (b : Nat) (s : State) : State := wr8 t (rd8 t s ||| ((1 : Byte) <<< b)) s

/-- `r8[z]`, the operand of an extended instruction (R140; spec/30_encoding.md R59). -/
def r8Operand : Nat → Arg
  | 0 => .r8 .b
  | 1 => .r8 .c
  | 2 => .r8 .d
  | 3 => .r8 .e
  | 4 => .r8 .h
  | 5 => .r8 .l
  | 6 => .ptr .hl
  | _ => .r8 .a

/-- The extended instruction of a selector byte, from its fields x, y and z (R140). -/
def extended (sel : Byte) (s : State) : State :=
  let y := (sel.extractLsb' 3 3).toNat
  let t := r8Operand (sel.extractLsb' 0 3).toNat
  match (sel.extractLsb' 6 2).toNat, y with
  | 0, 0 => rlc t s
  | 0, 1 => rrc t s
  | 0, 2 => rl t s
  | 0, 3 => rr t s
  | 0, 4 => sla t s
  | 0, 5 => sra t s
  | 0, 6 => swap t s
  | 0, _ => srl t s
  | 1, b => bitTest t b s
  | 2, b => bitReset t b s
  | _, b => bitSet t b s

/-! ### The instructions -/

/-- 0x07, RLCA (R142). -/
def exec_rlca (s : State) : Out :=
  .next (rlca s)

/-- 0x0F, RRCA (R143). -/
def exec_rrca (s : State) : Out :=
  .next (rrca s)

/-- 0x17, RLA (R144). -/
def exec_rla (s : State) : Out :=
  .next (rla s)

/-- 0x1F, RRA (R145). -/
def exec_rra (s : State) : Out :=
  .next (rra s)

/-- 0xCB00, RLC B (R146). -/
def exec_rlc_b (s : State) : Out :=
  .next (rlc (.r8 .b) s)

/-- 0xCB01, RLC C (R146). -/
def exec_rlc_c (s : State) : Out :=
  .next (rlc (.r8 .c) s)

/-- 0xCB02, RLC D (R146). -/
def exec_rlc_d (s : State) : Out :=
  .next (rlc (.r8 .d) s)

/-- 0xCB03, RLC E (R146). -/
def exec_rlc_e (s : State) : Out :=
  .next (rlc (.r8 .e) s)

/-- 0xCB04, RLC H (R146). -/
def exec_rlc_h (s : State) : Out :=
  .next (rlc (.r8 .h) s)

/-- 0xCB05, RLC L (R146). -/
def exec_rlc_l (s : State) : Out :=
  .next (rlc (.r8 .l) s)

/-- 0xCB06, RLC (HL) (R146). -/
def exec_rlc_mhl (s : State) : Out :=
  .next (rlc (.ptr .hl) s)

/-- 0xCB07, RLC A (R146). -/
def exec_rlc_a (s : State) : Out :=
  .next (rlc (.r8 .a) s)

/-- 0xCB08, RRC B (R147). -/
def exec_rrc_b (s : State) : Out :=
  .next (rrc (.r8 .b) s)

/-- 0xCB09, RRC C (R147). -/
def exec_rrc_c (s : State) : Out :=
  .next (rrc (.r8 .c) s)

/-- 0xCB0A, RRC D (R147). -/
def exec_rrc_d (s : State) : Out :=
  .next (rrc (.r8 .d) s)

/-- 0xCB0B, RRC E (R147). -/
def exec_rrc_e (s : State) : Out :=
  .next (rrc (.r8 .e) s)

/-- 0xCB0C, RRC H (R147). -/
def exec_rrc_h (s : State) : Out :=
  .next (rrc (.r8 .h) s)

/-- 0xCB0D, RRC L (R147). -/
def exec_rrc_l (s : State) : Out :=
  .next (rrc (.r8 .l) s)

/-- 0xCB0E, RRC (HL) (R147). -/
def exec_rrc_mhl (s : State) : Out :=
  .next (rrc (.ptr .hl) s)

/-- 0xCB0F, RRC A (R147). -/
def exec_rrc_a (s : State) : Out :=
  .next (rrc (.r8 .a) s)

/-- 0xCB10, RL B (R148). -/
def exec_rl_b (s : State) : Out :=
  .next (rl (.r8 .b) s)

/-- 0xCB11, RL C (R148). -/
def exec_rl_c (s : State) : Out :=
  .next (rl (.r8 .c) s)

/-- 0xCB12, RL D (R148). -/
def exec_rl_d (s : State) : Out :=
  .next (rl (.r8 .d) s)

/-- 0xCB13, RL E (R148). -/
def exec_rl_e (s : State) : Out :=
  .next (rl (.r8 .e) s)

/-- 0xCB14, RL H (R148). -/
def exec_rl_h (s : State) : Out :=
  .next (rl (.r8 .h) s)

/-- 0xCB15, RL L (R148). -/
def exec_rl_l (s : State) : Out :=
  .next (rl (.r8 .l) s)

/-- 0xCB16, RL (HL) (R148). -/
def exec_rl_mhl (s : State) : Out :=
  .next (rl (.ptr .hl) s)

/-- 0xCB17, RL A (R148). -/
def exec_rl_a (s : State) : Out :=
  .next (rl (.r8 .a) s)

/-- 0xCB18, RR B (R149). -/
def exec_rr_b (s : State) : Out :=
  .next (rr (.r8 .b) s)

/-- 0xCB19, RR C (R149). -/
def exec_rr_c (s : State) : Out :=
  .next (rr (.r8 .c) s)

/-- 0xCB1A, RR D (R149). -/
def exec_rr_d (s : State) : Out :=
  .next (rr (.r8 .d) s)

/-- 0xCB1B, RR E (R149). -/
def exec_rr_e (s : State) : Out :=
  .next (rr (.r8 .e) s)

/-- 0xCB1C, RR H (R149). -/
def exec_rr_h (s : State) : Out :=
  .next (rr (.r8 .h) s)

/-- 0xCB1D, RR L (R149). -/
def exec_rr_l (s : State) : Out :=
  .next (rr (.r8 .l) s)

/-- 0xCB1E, RR (HL) (R149). -/
def exec_rr_mhl (s : State) : Out :=
  .next (rr (.ptr .hl) s)

/-- 0xCB1F, RR A (R149). -/
def exec_rr_a (s : State) : Out :=
  .next (rr (.r8 .a) s)

/-- 0xCB20, SLA B (R150). -/
def exec_sla_b (s : State) : Out :=
  .next (sla (.r8 .b) s)

/-- 0xCB21, SLA C (R150). -/
def exec_sla_c (s : State) : Out :=
  .next (sla (.r8 .c) s)

/-- 0xCB22, SLA D (R150). -/
def exec_sla_d (s : State) : Out :=
  .next (sla (.r8 .d) s)

/-- 0xCB23, SLA E (R150). -/
def exec_sla_e (s : State) : Out :=
  .next (sla (.r8 .e) s)

/-- 0xCB24, SLA H (R150). -/
def exec_sla_h (s : State) : Out :=
  .next (sla (.r8 .h) s)

/-- 0xCB25, SLA L (R150). -/
def exec_sla_l (s : State) : Out :=
  .next (sla (.r8 .l) s)

/-- 0xCB26, SLA (HL) (R150). -/
def exec_sla_mhl (s : State) : Out :=
  .next (sla (.ptr .hl) s)

/-- 0xCB27, SLA A (R150). -/
def exec_sla_a (s : State) : Out :=
  .next (sla (.r8 .a) s)

/-- 0xCB28, SRA B (R151). -/
def exec_sra_b (s : State) : Out :=
  .next (sra (.r8 .b) s)

/-- 0xCB29, SRA C (R151). -/
def exec_sra_c (s : State) : Out :=
  .next (sra (.r8 .c) s)

/-- 0xCB2A, SRA D (R151). -/
def exec_sra_d (s : State) : Out :=
  .next (sra (.r8 .d) s)

/-- 0xCB2B, SRA E (R151). -/
def exec_sra_e (s : State) : Out :=
  .next (sra (.r8 .e) s)

/-- 0xCB2C, SRA H (R151). -/
def exec_sra_h (s : State) : Out :=
  .next (sra (.r8 .h) s)

/-- 0xCB2D, SRA L (R151). -/
def exec_sra_l (s : State) : Out :=
  .next (sra (.r8 .l) s)

/-- 0xCB2E, SRA (HL) (R151). -/
def exec_sra_mhl (s : State) : Out :=
  .next (sra (.ptr .hl) s)

/-- 0xCB2F, SRA A (R151). -/
def exec_sra_a (s : State) : Out :=
  .next (sra (.r8 .a) s)

/-- 0xCB30, SWAP B (R152). -/
def exec_swap_b (s : State) : Out :=
  .next (swap (.r8 .b) s)

/-- 0xCB31, SWAP C (R152). -/
def exec_swap_c (s : State) : Out :=
  .next (swap (.r8 .c) s)

/-- 0xCB32, SWAP D (R152). -/
def exec_swap_d (s : State) : Out :=
  .next (swap (.r8 .d) s)

/-- 0xCB33, SWAP E (R152). -/
def exec_swap_e (s : State) : Out :=
  .next (swap (.r8 .e) s)

/-- 0xCB34, SWAP H (R152). -/
def exec_swap_h (s : State) : Out :=
  .next (swap (.r8 .h) s)

/-- 0xCB35, SWAP L (R152). -/
def exec_swap_l (s : State) : Out :=
  .next (swap (.r8 .l) s)

/-- 0xCB36, SWAP (HL) (R152). -/
def exec_swap_mhl (s : State) : Out :=
  .next (swap (.ptr .hl) s)

/-- 0xCB37, SWAP A (R152). -/
def exec_swap_a (s : State) : Out :=
  .next (swap (.r8 .a) s)

/-- 0xCB38, SRL B (R153). -/
def exec_srl_b (s : State) : Out :=
  .next (srl (.r8 .b) s)

/-- 0xCB39, SRL C (R153). -/
def exec_srl_c (s : State) : Out :=
  .next (srl (.r8 .c) s)

/-- 0xCB3A, SRL D (R153). -/
def exec_srl_d (s : State) : Out :=
  .next (srl (.r8 .d) s)

/-- 0xCB3B, SRL E (R153). -/
def exec_srl_e (s : State) : Out :=
  .next (srl (.r8 .e) s)

/-- 0xCB3C, SRL H (R153). -/
def exec_srl_h (s : State) : Out :=
  .next (srl (.r8 .h) s)

/-- 0xCB3D, SRL L (R153). -/
def exec_srl_l (s : State) : Out :=
  .next (srl (.r8 .l) s)

/-- 0xCB3E, SRL (HL) (R153). -/
def exec_srl_mhl (s : State) : Out :=
  .next (srl (.ptr .hl) s)

/-- 0xCB3F, SRL A (R153). -/
def exec_srl_a (s : State) : Out :=
  .next (srl (.r8 .a) s)

/-- 0xCB40, BIT 0,B (R154). -/
def exec_bit_0_b (s : State) : Out :=
  .next (bitTest (.r8 .b) 0 s)

/-- 0xCB41, BIT 0,C (R154). -/
def exec_bit_0_c (s : State) : Out :=
  .next (bitTest (.r8 .c) 0 s)

/-- 0xCB42, BIT 0,D (R154). -/
def exec_bit_0_d (s : State) : Out :=
  .next (bitTest (.r8 .d) 0 s)

/-- 0xCB43, BIT 0,E (R154). -/
def exec_bit_0_e (s : State) : Out :=
  .next (bitTest (.r8 .e) 0 s)

/-- 0xCB44, BIT 0,H (R154). -/
def exec_bit_0_h (s : State) : Out :=
  .next (bitTest (.r8 .h) 0 s)

/-- 0xCB45, BIT 0,L (R154). -/
def exec_bit_0_l (s : State) : Out :=
  .next (bitTest (.r8 .l) 0 s)

/-- 0xCB46, BIT 0,(HL) (R154). -/
def exec_bit_0_mhl (s : State) : Out :=
  .next (bitTest (.ptr .hl) 0 s)

/-- 0xCB47, BIT 0,A (R154). -/
def exec_bit_0_a (s : State) : Out :=
  .next (bitTest (.r8 .a) 0 s)

/-- 0xCB48, BIT 1,B (R154). -/
def exec_bit_1_b (s : State) : Out :=
  .next (bitTest (.r8 .b) 1 s)

/-- 0xCB49, BIT 1,C (R154). -/
def exec_bit_1_c (s : State) : Out :=
  .next (bitTest (.r8 .c) 1 s)

/-- 0xCB4A, BIT 1,D (R154). -/
def exec_bit_1_d (s : State) : Out :=
  .next (bitTest (.r8 .d) 1 s)

/-- 0xCB4B, BIT 1,E (R154). -/
def exec_bit_1_e (s : State) : Out :=
  .next (bitTest (.r8 .e) 1 s)

/-- 0xCB4C, BIT 1,H (R154). -/
def exec_bit_1_h (s : State) : Out :=
  .next (bitTest (.r8 .h) 1 s)

/-- 0xCB4D, BIT 1,L (R154). -/
def exec_bit_1_l (s : State) : Out :=
  .next (bitTest (.r8 .l) 1 s)

/-- 0xCB4E, BIT 1,(HL) (R154). -/
def exec_bit_1_mhl (s : State) : Out :=
  .next (bitTest (.ptr .hl) 1 s)

/-- 0xCB4F, BIT 1,A (R154). -/
def exec_bit_1_a (s : State) : Out :=
  .next (bitTest (.r8 .a) 1 s)

/-- 0xCB50, BIT 2,B (R154). -/
def exec_bit_2_b (s : State) : Out :=
  .next (bitTest (.r8 .b) 2 s)

/-- 0xCB51, BIT 2,C (R154). -/
def exec_bit_2_c (s : State) : Out :=
  .next (bitTest (.r8 .c) 2 s)

/-- 0xCB52, BIT 2,D (R154). -/
def exec_bit_2_d (s : State) : Out :=
  .next (bitTest (.r8 .d) 2 s)

/-- 0xCB53, BIT 2,E (R154). -/
def exec_bit_2_e (s : State) : Out :=
  .next (bitTest (.r8 .e) 2 s)

/-- 0xCB54, BIT 2,H (R154). -/
def exec_bit_2_h (s : State) : Out :=
  .next (bitTest (.r8 .h) 2 s)

/-- 0xCB55, BIT 2,L (R154). -/
def exec_bit_2_l (s : State) : Out :=
  .next (bitTest (.r8 .l) 2 s)

/-- 0xCB56, BIT 2,(HL) (R154). -/
def exec_bit_2_mhl (s : State) : Out :=
  .next (bitTest (.ptr .hl) 2 s)

/-- 0xCB57, BIT 2,A (R154). -/
def exec_bit_2_a (s : State) : Out :=
  .next (bitTest (.r8 .a) 2 s)

/-- 0xCB58, BIT 3,B (R154). -/
def exec_bit_3_b (s : State) : Out :=
  .next (bitTest (.r8 .b) 3 s)

/-- 0xCB59, BIT 3,C (R154). -/
def exec_bit_3_c (s : State) : Out :=
  .next (bitTest (.r8 .c) 3 s)

/-- 0xCB5A, BIT 3,D (R154). -/
def exec_bit_3_d (s : State) : Out :=
  .next (bitTest (.r8 .d) 3 s)

/-- 0xCB5B, BIT 3,E (R154). -/
def exec_bit_3_e (s : State) : Out :=
  .next (bitTest (.r8 .e) 3 s)

/-- 0xCB5C, BIT 3,H (R154). -/
def exec_bit_3_h (s : State) : Out :=
  .next (bitTest (.r8 .h) 3 s)

/-- 0xCB5D, BIT 3,L (R154). -/
def exec_bit_3_l (s : State) : Out :=
  .next (bitTest (.r8 .l) 3 s)

/-- 0xCB5E, BIT 3,(HL) (R154). -/
def exec_bit_3_mhl (s : State) : Out :=
  .next (bitTest (.ptr .hl) 3 s)

/-- 0xCB5F, BIT 3,A (R154). -/
def exec_bit_3_a (s : State) : Out :=
  .next (bitTest (.r8 .a) 3 s)

/-- 0xCB60, BIT 4,B (R154). -/
def exec_bit_4_b (s : State) : Out :=
  .next (bitTest (.r8 .b) 4 s)

/-- 0xCB61, BIT 4,C (R154). -/
def exec_bit_4_c (s : State) : Out :=
  .next (bitTest (.r8 .c) 4 s)

/-- 0xCB62, BIT 4,D (R154). -/
def exec_bit_4_d (s : State) : Out :=
  .next (bitTest (.r8 .d) 4 s)

/-- 0xCB63, BIT 4,E (R154). -/
def exec_bit_4_e (s : State) : Out :=
  .next (bitTest (.r8 .e) 4 s)

/-- 0xCB64, BIT 4,H (R154). -/
def exec_bit_4_h (s : State) : Out :=
  .next (bitTest (.r8 .h) 4 s)

/-- 0xCB65, BIT 4,L (R154). -/
def exec_bit_4_l (s : State) : Out :=
  .next (bitTest (.r8 .l) 4 s)

/-- 0xCB66, BIT 4,(HL) (R154). -/
def exec_bit_4_mhl (s : State) : Out :=
  .next (bitTest (.ptr .hl) 4 s)

/-- 0xCB67, BIT 4,A (R154). -/
def exec_bit_4_a (s : State) : Out :=
  .next (bitTest (.r8 .a) 4 s)

/-- 0xCB68, BIT 5,B (R154). -/
def exec_bit_5_b (s : State) : Out :=
  .next (bitTest (.r8 .b) 5 s)

/-- 0xCB69, BIT 5,C (R154). -/
def exec_bit_5_c (s : State) : Out :=
  .next (bitTest (.r8 .c) 5 s)

/-- 0xCB6A, BIT 5,D (R154). -/
def exec_bit_5_d (s : State) : Out :=
  .next (bitTest (.r8 .d) 5 s)

/-- 0xCB6B, BIT 5,E (R154). -/
def exec_bit_5_e (s : State) : Out :=
  .next (bitTest (.r8 .e) 5 s)

/-- 0xCB6C, BIT 5,H (R154). -/
def exec_bit_5_h (s : State) : Out :=
  .next (bitTest (.r8 .h) 5 s)

/-- 0xCB6D, BIT 5,L (R154). -/
def exec_bit_5_l (s : State) : Out :=
  .next (bitTest (.r8 .l) 5 s)

/-- 0xCB6E, BIT 5,(HL) (R154). -/
def exec_bit_5_mhl (s : State) : Out :=
  .next (bitTest (.ptr .hl) 5 s)

/-- 0xCB6F, BIT 5,A (R154). -/
def exec_bit_5_a (s : State) : Out :=
  .next (bitTest (.r8 .a) 5 s)

/-- 0xCB70, BIT 6,B (R154). -/
def exec_bit_6_b (s : State) : Out :=
  .next (bitTest (.r8 .b) 6 s)

/-- 0xCB71, BIT 6,C (R154). -/
def exec_bit_6_c (s : State) : Out :=
  .next (bitTest (.r8 .c) 6 s)

/-- 0xCB72, BIT 6,D (R154). -/
def exec_bit_6_d (s : State) : Out :=
  .next (bitTest (.r8 .d) 6 s)

/-- 0xCB73, BIT 6,E (R154). -/
def exec_bit_6_e (s : State) : Out :=
  .next (bitTest (.r8 .e) 6 s)

/-- 0xCB74, BIT 6,H (R154). -/
def exec_bit_6_h (s : State) : Out :=
  .next (bitTest (.r8 .h) 6 s)

/-- 0xCB75, BIT 6,L (R154). -/
def exec_bit_6_l (s : State) : Out :=
  .next (bitTest (.r8 .l) 6 s)

/-- 0xCB76, BIT 6,(HL) (R154). -/
def exec_bit_6_mhl (s : State) : Out :=
  .next (bitTest (.ptr .hl) 6 s)

/-- 0xCB77, BIT 6,A (R154). -/
def exec_bit_6_a (s : State) : Out :=
  .next (bitTest (.r8 .a) 6 s)

/-- 0xCB78, BIT 7,B (R154). -/
def exec_bit_7_b (s : State) : Out :=
  .next (bitTest (.r8 .b) 7 s)

/-- 0xCB79, BIT 7,C (R154). -/
def exec_bit_7_c (s : State) : Out :=
  .next (bitTest (.r8 .c) 7 s)

/-- 0xCB7A, BIT 7,D (R154). -/
def exec_bit_7_d (s : State) : Out :=
  .next (bitTest (.r8 .d) 7 s)

/-- 0xCB7B, BIT 7,E (R154). -/
def exec_bit_7_e (s : State) : Out :=
  .next (bitTest (.r8 .e) 7 s)

/-- 0xCB7C, BIT 7,H (R154). -/
def exec_bit_7_h (s : State) : Out :=
  .next (bitTest (.r8 .h) 7 s)

/-- 0xCB7D, BIT 7,L (R154). -/
def exec_bit_7_l (s : State) : Out :=
  .next (bitTest (.r8 .l) 7 s)

/-- 0xCB7E, BIT 7,(HL) (R154). -/
def exec_bit_7_mhl (s : State) : Out :=
  .next (bitTest (.ptr .hl) 7 s)

/-- 0xCB7F, BIT 7,A (R154). -/
def exec_bit_7_a (s : State) : Out :=
  .next (bitTest (.r8 .a) 7 s)

/-- 0xCB80, RES 0,B (R155). -/
def exec_res_0_b (s : State) : Out :=
  .next (bitReset (.r8 .b) 0 s)

/-- 0xCB81, RES 0,C (R155). -/
def exec_res_0_c (s : State) : Out :=
  .next (bitReset (.r8 .c) 0 s)

/-- 0xCB82, RES 0,D (R155). -/
def exec_res_0_d (s : State) : Out :=
  .next (bitReset (.r8 .d) 0 s)

/-- 0xCB83, RES 0,E (R155). -/
def exec_res_0_e (s : State) : Out :=
  .next (bitReset (.r8 .e) 0 s)

/-- 0xCB84, RES 0,H (R155). -/
def exec_res_0_h (s : State) : Out :=
  .next (bitReset (.r8 .h) 0 s)

/-- 0xCB85, RES 0,L (R155). -/
def exec_res_0_l (s : State) : Out :=
  .next (bitReset (.r8 .l) 0 s)

/-- 0xCB86, RES 0,(HL) (R155). -/
def exec_res_0_mhl (s : State) : Out :=
  .next (bitReset (.ptr .hl) 0 s)

/-- 0xCB87, RES 0,A (R155). -/
def exec_res_0_a (s : State) : Out :=
  .next (bitReset (.r8 .a) 0 s)

/-- 0xCB88, RES 1,B (R155). -/
def exec_res_1_b (s : State) : Out :=
  .next (bitReset (.r8 .b) 1 s)

/-- 0xCB89, RES 1,C (R155). -/
def exec_res_1_c (s : State) : Out :=
  .next (bitReset (.r8 .c) 1 s)

/-- 0xCB8A, RES 1,D (R155). -/
def exec_res_1_d (s : State) : Out :=
  .next (bitReset (.r8 .d) 1 s)

/-- 0xCB8B, RES 1,E (R155). -/
def exec_res_1_e (s : State) : Out :=
  .next (bitReset (.r8 .e) 1 s)

/-- 0xCB8C, RES 1,H (R155). -/
def exec_res_1_h (s : State) : Out :=
  .next (bitReset (.r8 .h) 1 s)

/-- 0xCB8D, RES 1,L (R155). -/
def exec_res_1_l (s : State) : Out :=
  .next (bitReset (.r8 .l) 1 s)

/-- 0xCB8E, RES 1,(HL) (R155). -/
def exec_res_1_mhl (s : State) : Out :=
  .next (bitReset (.ptr .hl) 1 s)

/-- 0xCB8F, RES 1,A (R155). -/
def exec_res_1_a (s : State) : Out :=
  .next (bitReset (.r8 .a) 1 s)

/-- 0xCB90, RES 2,B (R155). -/
def exec_res_2_b (s : State) : Out :=
  .next (bitReset (.r8 .b) 2 s)

/-- 0xCB91, RES 2,C (R155). -/
def exec_res_2_c (s : State) : Out :=
  .next (bitReset (.r8 .c) 2 s)

/-- 0xCB92, RES 2,D (R155). -/
def exec_res_2_d (s : State) : Out :=
  .next (bitReset (.r8 .d) 2 s)

/-- 0xCB93, RES 2,E (R155). -/
def exec_res_2_e (s : State) : Out :=
  .next (bitReset (.r8 .e) 2 s)

/-- 0xCB94, RES 2,H (R155). -/
def exec_res_2_h (s : State) : Out :=
  .next (bitReset (.r8 .h) 2 s)

/-- 0xCB95, RES 2,L (R155). -/
def exec_res_2_l (s : State) : Out :=
  .next (bitReset (.r8 .l) 2 s)

/-- 0xCB96, RES 2,(HL) (R155). -/
def exec_res_2_mhl (s : State) : Out :=
  .next (bitReset (.ptr .hl) 2 s)

/-- 0xCB97, RES 2,A (R155). -/
def exec_res_2_a (s : State) : Out :=
  .next (bitReset (.r8 .a) 2 s)

/-- 0xCB98, RES 3,B (R155). -/
def exec_res_3_b (s : State) : Out :=
  .next (bitReset (.r8 .b) 3 s)

/-- 0xCB99, RES 3,C (R155). -/
def exec_res_3_c (s : State) : Out :=
  .next (bitReset (.r8 .c) 3 s)

/-- 0xCB9A, RES 3,D (R155). -/
def exec_res_3_d (s : State) : Out :=
  .next (bitReset (.r8 .d) 3 s)

/-- 0xCB9B, RES 3,E (R155). -/
def exec_res_3_e (s : State) : Out :=
  .next (bitReset (.r8 .e) 3 s)

/-- 0xCB9C, RES 3,H (R155). -/
def exec_res_3_h (s : State) : Out :=
  .next (bitReset (.r8 .h) 3 s)

/-- 0xCB9D, RES 3,L (R155). -/
def exec_res_3_l (s : State) : Out :=
  .next (bitReset (.r8 .l) 3 s)

/-- 0xCB9E, RES 3,(HL) (R155). -/
def exec_res_3_mhl (s : State) : Out :=
  .next (bitReset (.ptr .hl) 3 s)

/-- 0xCB9F, RES 3,A (R155). -/
def exec_res_3_a (s : State) : Out :=
  .next (bitReset (.r8 .a) 3 s)

/-- 0xCBA0, RES 4,B (R155). -/
def exec_res_4_b (s : State) : Out :=
  .next (bitReset (.r8 .b) 4 s)

/-- 0xCBA1, RES 4,C (R155). -/
def exec_res_4_c (s : State) : Out :=
  .next (bitReset (.r8 .c) 4 s)

/-- 0xCBA2, RES 4,D (R155). -/
def exec_res_4_d (s : State) : Out :=
  .next (bitReset (.r8 .d) 4 s)

/-- 0xCBA3, RES 4,E (R155). -/
def exec_res_4_e (s : State) : Out :=
  .next (bitReset (.r8 .e) 4 s)

/-- 0xCBA4, RES 4,H (R155). -/
def exec_res_4_h (s : State) : Out :=
  .next (bitReset (.r8 .h) 4 s)

/-- 0xCBA5, RES 4,L (R155). -/
def exec_res_4_l (s : State) : Out :=
  .next (bitReset (.r8 .l) 4 s)

/-- 0xCBA6, RES 4,(HL) (R155). -/
def exec_res_4_mhl (s : State) : Out :=
  .next (bitReset (.ptr .hl) 4 s)

/-- 0xCBA7, RES 4,A (R155). -/
def exec_res_4_a (s : State) : Out :=
  .next (bitReset (.r8 .a) 4 s)

/-- 0xCBA8, RES 5,B (R155). -/
def exec_res_5_b (s : State) : Out :=
  .next (bitReset (.r8 .b) 5 s)

/-- 0xCBA9, RES 5,C (R155). -/
def exec_res_5_c (s : State) : Out :=
  .next (bitReset (.r8 .c) 5 s)

/-- 0xCBAA, RES 5,D (R155). -/
def exec_res_5_d (s : State) : Out :=
  .next (bitReset (.r8 .d) 5 s)

/-- 0xCBAB, RES 5,E (R155). -/
def exec_res_5_e (s : State) : Out :=
  .next (bitReset (.r8 .e) 5 s)

/-- 0xCBAC, RES 5,H (R155). -/
def exec_res_5_h (s : State) : Out :=
  .next (bitReset (.r8 .h) 5 s)

/-- 0xCBAD, RES 5,L (R155). -/
def exec_res_5_l (s : State) : Out :=
  .next (bitReset (.r8 .l) 5 s)

/-- 0xCBAE, RES 5,(HL) (R155). -/
def exec_res_5_mhl (s : State) : Out :=
  .next (bitReset (.ptr .hl) 5 s)

/-- 0xCBAF, RES 5,A (R155). -/
def exec_res_5_a (s : State) : Out :=
  .next (bitReset (.r8 .a) 5 s)

/-- 0xCBB0, RES 6,B (R155). -/
def exec_res_6_b (s : State) : Out :=
  .next (bitReset (.r8 .b) 6 s)

/-- 0xCBB1, RES 6,C (R155). -/
def exec_res_6_c (s : State) : Out :=
  .next (bitReset (.r8 .c) 6 s)

/-- 0xCBB2, RES 6,D (R155). -/
def exec_res_6_d (s : State) : Out :=
  .next (bitReset (.r8 .d) 6 s)

/-- 0xCBB3, RES 6,E (R155). -/
def exec_res_6_e (s : State) : Out :=
  .next (bitReset (.r8 .e) 6 s)

/-- 0xCBB4, RES 6,H (R155). -/
def exec_res_6_h (s : State) : Out :=
  .next (bitReset (.r8 .h) 6 s)

/-- 0xCBB5, RES 6,L (R155). -/
def exec_res_6_l (s : State) : Out :=
  .next (bitReset (.r8 .l) 6 s)

/-- 0xCBB6, RES 6,(HL) (R155). -/
def exec_res_6_mhl (s : State) : Out :=
  .next (bitReset (.ptr .hl) 6 s)

/-- 0xCBB7, RES 6,A (R155). -/
def exec_res_6_a (s : State) : Out :=
  .next (bitReset (.r8 .a) 6 s)

/-- 0xCBB8, RES 7,B (R155). -/
def exec_res_7_b (s : State) : Out :=
  .next (bitReset (.r8 .b) 7 s)

/-- 0xCBB9, RES 7,C (R155). -/
def exec_res_7_c (s : State) : Out :=
  .next (bitReset (.r8 .c) 7 s)

/-- 0xCBBA, RES 7,D (R155). -/
def exec_res_7_d (s : State) : Out :=
  .next (bitReset (.r8 .d) 7 s)

/-- 0xCBBB, RES 7,E (R155). -/
def exec_res_7_e (s : State) : Out :=
  .next (bitReset (.r8 .e) 7 s)

/-- 0xCBBC, RES 7,H (R155). -/
def exec_res_7_h (s : State) : Out :=
  .next (bitReset (.r8 .h) 7 s)

/-- 0xCBBD, RES 7,L (R155). -/
def exec_res_7_l (s : State) : Out :=
  .next (bitReset (.r8 .l) 7 s)

/-- 0xCBBE, RES 7,(HL) (R155). -/
def exec_res_7_mhl (s : State) : Out :=
  .next (bitReset (.ptr .hl) 7 s)

/-- 0xCBBF, RES 7,A (R155). -/
def exec_res_7_a (s : State) : Out :=
  .next (bitReset (.r8 .a) 7 s)

/-- 0xCBC0, SET 0,B (R156). -/
def exec_set_0_b (s : State) : Out :=
  .next (bitSet (.r8 .b) 0 s)

/-- 0xCBC1, SET 0,C (R156). -/
def exec_set_0_c (s : State) : Out :=
  .next (bitSet (.r8 .c) 0 s)

/-- 0xCBC2, SET 0,D (R156). -/
def exec_set_0_d (s : State) : Out :=
  .next (bitSet (.r8 .d) 0 s)

/-- 0xCBC3, SET 0,E (R156). -/
def exec_set_0_e (s : State) : Out :=
  .next (bitSet (.r8 .e) 0 s)

/-- 0xCBC4, SET 0,H (R156). -/
def exec_set_0_h (s : State) : Out :=
  .next (bitSet (.r8 .h) 0 s)

/-- 0xCBC5, SET 0,L (R156). -/
def exec_set_0_l (s : State) : Out :=
  .next (bitSet (.r8 .l) 0 s)

/-- 0xCBC6, SET 0,(HL) (R156). -/
def exec_set_0_mhl (s : State) : Out :=
  .next (bitSet (.ptr .hl) 0 s)

/-- 0xCBC7, SET 0,A (R156). -/
def exec_set_0_a (s : State) : Out :=
  .next (bitSet (.r8 .a) 0 s)

/-- 0xCBC8, SET 1,B (R156). -/
def exec_set_1_b (s : State) : Out :=
  .next (bitSet (.r8 .b) 1 s)

/-- 0xCBC9, SET 1,C (R156). -/
def exec_set_1_c (s : State) : Out :=
  .next (bitSet (.r8 .c) 1 s)

/-- 0xCBCA, SET 1,D (R156). -/
def exec_set_1_d (s : State) : Out :=
  .next (bitSet (.r8 .d) 1 s)

/-- 0xCBCB, SET 1,E (R156). -/
def exec_set_1_e (s : State) : Out :=
  .next (bitSet (.r8 .e) 1 s)

/-- 0xCBCC, SET 1,H (R156). -/
def exec_set_1_h (s : State) : Out :=
  .next (bitSet (.r8 .h) 1 s)

/-- 0xCBCD, SET 1,L (R156). -/
def exec_set_1_l (s : State) : Out :=
  .next (bitSet (.r8 .l) 1 s)

/-- 0xCBCE, SET 1,(HL) (R156). -/
def exec_set_1_mhl (s : State) : Out :=
  .next (bitSet (.ptr .hl) 1 s)

/-- 0xCBCF, SET 1,A (R156). -/
def exec_set_1_a (s : State) : Out :=
  .next (bitSet (.r8 .a) 1 s)

/-- 0xCBD0, SET 2,B (R156). -/
def exec_set_2_b (s : State) : Out :=
  .next (bitSet (.r8 .b) 2 s)

/-- 0xCBD1, SET 2,C (R156). -/
def exec_set_2_c (s : State) : Out :=
  .next (bitSet (.r8 .c) 2 s)

/-- 0xCBD2, SET 2,D (R156). -/
def exec_set_2_d (s : State) : Out :=
  .next (bitSet (.r8 .d) 2 s)

/-- 0xCBD3, SET 2,E (R156). -/
def exec_set_2_e (s : State) : Out :=
  .next (bitSet (.r8 .e) 2 s)

/-- 0xCBD4, SET 2,H (R156). -/
def exec_set_2_h (s : State) : Out :=
  .next (bitSet (.r8 .h) 2 s)

/-- 0xCBD5, SET 2,L (R156). -/
def exec_set_2_l (s : State) : Out :=
  .next (bitSet (.r8 .l) 2 s)

/-- 0xCBD6, SET 2,(HL) (R156). -/
def exec_set_2_mhl (s : State) : Out :=
  .next (bitSet (.ptr .hl) 2 s)

/-- 0xCBD7, SET 2,A (R156). -/
def exec_set_2_a (s : State) : Out :=
  .next (bitSet (.r8 .a) 2 s)

/-- 0xCBD8, SET 3,B (R156). -/
def exec_set_3_b (s : State) : Out :=
  .next (bitSet (.r8 .b) 3 s)

/-- 0xCBD9, SET 3,C (R156). -/
def exec_set_3_c (s : State) : Out :=
  .next (bitSet (.r8 .c) 3 s)

/-- 0xCBDA, SET 3,D (R156). -/
def exec_set_3_d (s : State) : Out :=
  .next (bitSet (.r8 .d) 3 s)

/-- 0xCBDB, SET 3,E (R156). -/
def exec_set_3_e (s : State) : Out :=
  .next (bitSet (.r8 .e) 3 s)

/-- 0xCBDC, SET 3,H (R156). -/
def exec_set_3_h (s : State) : Out :=
  .next (bitSet (.r8 .h) 3 s)

/-- 0xCBDD, SET 3,L (R156). -/
def exec_set_3_l (s : State) : Out :=
  .next (bitSet (.r8 .l) 3 s)

/-- 0xCBDE, SET 3,(HL) (R156). -/
def exec_set_3_mhl (s : State) : Out :=
  .next (bitSet (.ptr .hl) 3 s)

/-- 0xCBDF, SET 3,A (R156). -/
def exec_set_3_a (s : State) : Out :=
  .next (bitSet (.r8 .a) 3 s)

/-- 0xCBE0, SET 4,B (R156). -/
def exec_set_4_b (s : State) : Out :=
  .next (bitSet (.r8 .b) 4 s)

/-- 0xCBE1, SET 4,C (R156). -/
def exec_set_4_c (s : State) : Out :=
  .next (bitSet (.r8 .c) 4 s)

/-- 0xCBE2, SET 4,D (R156). -/
def exec_set_4_d (s : State) : Out :=
  .next (bitSet (.r8 .d) 4 s)

/-- 0xCBE3, SET 4,E (R156). -/
def exec_set_4_e (s : State) : Out :=
  .next (bitSet (.r8 .e) 4 s)

/-- 0xCBE4, SET 4,H (R156). -/
def exec_set_4_h (s : State) : Out :=
  .next (bitSet (.r8 .h) 4 s)

/-- 0xCBE5, SET 4,L (R156). -/
def exec_set_4_l (s : State) : Out :=
  .next (bitSet (.r8 .l) 4 s)

/-- 0xCBE6, SET 4,(HL) (R156). -/
def exec_set_4_mhl (s : State) : Out :=
  .next (bitSet (.ptr .hl) 4 s)

/-- 0xCBE7, SET 4,A (R156). -/
def exec_set_4_a (s : State) : Out :=
  .next (bitSet (.r8 .a) 4 s)

/-- 0xCBE8, SET 5,B (R156). -/
def exec_set_5_b (s : State) : Out :=
  .next (bitSet (.r8 .b) 5 s)

/-- 0xCBE9, SET 5,C (R156). -/
def exec_set_5_c (s : State) : Out :=
  .next (bitSet (.r8 .c) 5 s)

/-- 0xCBEA, SET 5,D (R156). -/
def exec_set_5_d (s : State) : Out :=
  .next (bitSet (.r8 .d) 5 s)

/-- 0xCBEB, SET 5,E (R156). -/
def exec_set_5_e (s : State) : Out :=
  .next (bitSet (.r8 .e) 5 s)

/-- 0xCBEC, SET 5,H (R156). -/
def exec_set_5_h (s : State) : Out :=
  .next (bitSet (.r8 .h) 5 s)

/-- 0xCBED, SET 5,L (R156). -/
def exec_set_5_l (s : State) : Out :=
  .next (bitSet (.r8 .l) 5 s)

/-- 0xCBEE, SET 5,(HL) (R156). -/
def exec_set_5_mhl (s : State) : Out :=
  .next (bitSet (.ptr .hl) 5 s)

/-- 0xCBEF, SET 5,A (R156). -/
def exec_set_5_a (s : State) : Out :=
  .next (bitSet (.r8 .a) 5 s)

/-- 0xCBF0, SET 6,B (R156). -/
def exec_set_6_b (s : State) : Out :=
  .next (bitSet (.r8 .b) 6 s)

/-- 0xCBF1, SET 6,C (R156). -/
def exec_set_6_c (s : State) : Out :=
  .next (bitSet (.r8 .c) 6 s)

/-- 0xCBF2, SET 6,D (R156). -/
def exec_set_6_d (s : State) : Out :=
  .next (bitSet (.r8 .d) 6 s)

/-- 0xCBF3, SET 6,E (R156). -/
def exec_set_6_e (s : State) : Out :=
  .next (bitSet (.r8 .e) 6 s)

/-- 0xCBF4, SET 6,H (R156). -/
def exec_set_6_h (s : State) : Out :=
  .next (bitSet (.r8 .h) 6 s)

/-- 0xCBF5, SET 6,L (R156). -/
def exec_set_6_l (s : State) : Out :=
  .next (bitSet (.r8 .l) 6 s)

/-- 0xCBF6, SET 6,(HL) (R156). -/
def exec_set_6_mhl (s : State) : Out :=
  .next (bitSet (.ptr .hl) 6 s)

/-- 0xCBF7, SET 6,A (R156). -/
def exec_set_6_a (s : State) : Out :=
  .next (bitSet (.r8 .a) 6 s)

/-- 0xCBF8, SET 7,B (R156). -/
def exec_set_7_b (s : State) : Out :=
  .next (bitSet (.r8 .b) 7 s)

/-- 0xCBF9, SET 7,C (R156). -/
def exec_set_7_c (s : State) : Out :=
  .next (bitSet (.r8 .c) 7 s)

/-- 0xCBFA, SET 7,D (R156). -/
def exec_set_7_d (s : State) : Out :=
  .next (bitSet (.r8 .d) 7 s)

/-- 0xCBFB, SET 7,E (R156). -/
def exec_set_7_e (s : State) : Out :=
  .next (bitSet (.r8 .e) 7 s)

/-- 0xCBFC, SET 7,H (R156). -/
def exec_set_7_h (s : State) : Out :=
  .next (bitSet (.r8 .h) 7 s)

/-- 0xCBFD, SET 7,L (R156). -/
def exec_set_7_l (s : State) : Out :=
  .next (bitSet (.r8 .l) 7 s)

/-- 0xCBFE, SET 7,(HL) (R156). -/
def exec_set_7_mhl (s : State) : Out :=
  .next (bitSet (.ptr .hl) 7 s)

/-- 0xCBFF, SET 7,A (R156). -/
def exec_set_7_a (s : State) : Out :=
  .next (bitSet (.r8 .a) 7 s)

end Sys2Proof.Machine
end

