-- ==== Sys2Proof/Machine/System.lean ====
section
/-! DEFINITION. System and miscellaneous instructions (spec/46_system.md R168 to R174). -/

namespace Sys2Proof.Machine

/-- NOP (R168). -/
def nop (s : State) : State := s

/-- HALT (R169). -/
def halt (s : State) : State := { s with mode := .halted }

/-- STOP d8: the immediate is fetched and ignored, and the CORE halts as by HALT (R170). -/
def stop (_ignored : Arg) (s : State) : State := { s with mode := .halted }

/-- DI (R171). -/
def di (s : State) : State := { s with ime := false }

/-- EI (R172). -/
def ei (s : State) : State := { s with ime := true, eiInhibit := true }

/-- ILLEGAL: a no-op (R174). -/
def illegal (s : State) : State := s

/-! ### The instructions -/

/-- 0x00, NOP (R168). -/
def exec_nop (s : State) : Out :=
  .next (nop s)

/-- 0x10, STOP d8 (R170). -/
def exec_stop_d8 (n : Byte) (s : State) : Out :=
  .next (stop (.imm8 n) s)

/-- 0x76, HALT (R169). -/
def exec_halt (s : State) : Out :=
  .next (halt s)

/-- 0xCB, PREFIX CB (R173). -/
def exec_prefix_cb (sel : Byte) (s : State) : Out :=
  .next (extended sel s)

/-- 0xD3, ILLEGAL_D3 (R174). -/
def exec_illegal_d3 (s : State) : Out :=
  .next (illegal s)

/-- 0xDB, ILLEGAL_DB (R174). -/
def exec_illegal_db (s : State) : Out :=
  .next (illegal s)

/-- 0xDD, ILLEGAL_DD (R174). -/
def exec_illegal_dd (s : State) : Out :=
  .next (illegal s)

/-- 0xE3, ILLEGAL_E3 (R174). -/
def exec_illegal_e3 (s : State) : Out :=
  .next (illegal s)

/-- 0xE4, ILLEGAL_E4 (R174). -/
def exec_illegal_e4 (s : State) : Out :=
  .next (illegal s)

/-- 0xEB, ILLEGAL_EB (R174). -/
def exec_illegal_eb (s : State) : Out :=
  .next (illegal s)

/-- 0xEC, ILLEGAL_EC (R174). -/
def exec_illegal_ec (s : State) : Out :=
  .next (illegal s)

/-- 0xED, ILLEGAL_ED (R174). -/
def exec_illegal_ed (s : State) : Out :=
  .next (illegal s)

/-- 0xF3, DI (R171). -/
def exec_di (s : State) : Out :=
  .next (di s)

/-- 0xF4, ILLEGAL_F4 (R174). -/
def exec_illegal_f4 (s : State) : Out :=
  .next (illegal s)

/-- 0xFB, EI (R172). -/
def exec_ei (s : State) : Out :=
  .next (ei s)

/-- 0xFC, ILLEGAL_FC (R174). -/
def exec_illegal_fc (s : State) : Out :=
  .next (illegal s)

/-- 0xFD, ILLEGAL_FD (R174). -/
def exec_illegal_fd (s : State) : Out :=
  .next (illegal s)

end Sys2Proof.Machine
end

