-- ==== Sys2Proof/Machine/Engine.lean ====
section
/-! DEFINITION. The fetch-decode-execute state machine (spec/40_engine.md R76 to R92) around `exec`: the step boundary
where the host's input lands, the wake from Halted, the dispatch check, the fetch, the advance of PC, the cycle cost
and the end of Booting. Also the execute phase read from the decoded record, with which `exec` agrees. -/

namespace Sys2Proof.Machine

/-! ### The step boundary -/

/-- The host's input for the coming step: the one State schedules, or the free value (R42, R90; log entry 4). -/
def State.hostInput (s : State) : HostInput :=
  match s.host with
  | x :: _ => x
  | [] => Config.hostInput s.tick

/-- The state after the host's changes at the step boundary (spec/20_memory.md R42). -/
def State.boundary (s : State) : State :=
  { s with
    bus := s.bus.hostChanges s.hostInput.changes
    host := s.host.tail
    tick := s.tick + 1 }

/-! ### Halted, and the interrupt check -/

/-- The wake condition: `irq_pending`, or with `IRQ_DISPATCH` a pending interrupt, whatever IME is (R90). -/
def State.wakes (s : State) (irqPending : Bool) : Bool :=
  if s.irqDispatch then s.pending != 0 else irqPending

/-- The mode outside Halted: Booting while the boot ROM is mapped, else Running (R88). -/
def State.awakeMode (s : State) : Mode := if s.bus.bootRomActive then .booting else .running

/-- Leave Halted (R84, R88). A state in another mode is unchanged. -/
def State.awake (s : State) : State :=
  if s.mode = .halted then { s with mode := s.awakeMode } else s

/-- Whether the step dispatches an interrupt (R84; spec/60_exceptions.md R181). -/
def State.dispatchDue (s : State) : Bool := s.irqDispatch && s.ime && !s.eiInhibit && s.pending != 0

/-- The end of the one-step delay of EI: the check has been made, and the step clears `ei_inhibit` (R84; spec/10_state.md R25). -/
def State.clearInhibit (s : State) : State := { s with eiInhibit := false }

/-! ### One instruction -/

/-- The instruction at PC; fetch addresses wrap (R77). Reads have no side effect, so the bytes past a short
instruction do not matter (R41). -/
def State.fetch (s : State) : Instr := decode3 (s.read s.pc) (s.read (s.pc + 1)) (s.read (s.pc + 2))

/-- PC past an instruction, before it executes (R85). -/
def State.advance (s : State) (i : Instr) : State := { s with pc := s.pc + BitVec.ofNat 16 i.length }

/-- The cycle cost of an instruction: the base cost, and the taken extra of a conditional transfer whose condition
holds at the start of its execute phase (R87). -/
def cost (i : Instr) (s : State) : Nat :=
  i.record.cycles + if taken i.record.lhs s then i.record.takenExtra else 0

/-- Add to the cycle counter, 64 bits, wrapping (R26, R84). -/
def State.charge (s : State) (n : Nat) : State := { s with cycleCount := s.cycleCount + BitVec.ofNat 64 n }

/-- The end of a step that is in Booting: Running once the boot ROM is unmapped (R88). -/
def State.endBooting (s : State) : State :=
  if s.mode = .booting ∧ s.bus.bootRomActive = false then { s with mode := .running } else s

/-- Fetch and run one instruction (R84), and give its cost. -/
def runInstr (s : State) : Host.Outcome (State × Nat) Fault Refusal :=
  let i := s.fetch
  let n := cost i s
  match exec i (s.advance i) with
  | .next t => .next (t.endBooting.charge n, n)
  | .fault r => .fault r
  | .refused r => .refused r

/-- `step(irq_pending)` (R84), with the state it leaves and the cost it returns: an idle step of a Halted CPU (R89),
an interrupt dispatch (spec/60_exceptions.md R183), or one instruction. A dispatch step does not end Booting
(log entry 8). -/
def runStep (s : State) : Host.Outcome (State × Nat) Fault Refusal :=
  let s1 := s.boundary
  if s1.mode = .halted ∧ s1.wakes s.hostInput.irqPending = false then
    .next (s1.charge Config.haltIdleCycles, Config.haltIdleCycles)
  else
    let s2 := s1.awake
    if s2.dispatchDue then
      .next (s2.clearInhibit.dispatch.charge Config.dispatchCycles, Config.dispatchCycles)
    else runInstr s2.clearInhibit

/-! ### The execute phase from the record -/

/-- `execute(ins, args, taken)` of R84, from the decoded record alone: the operation of its kind on its arguments.
The prefix entry is never executed (spec/46_system.md R173). -/
def executeRecord (r : Record) (s : State) : State :=
  match r.kind with
  | .nop => nop s
  | .ld =>
    match r.lhs, r.rhs with
    | .r16 .hl, .spOffset n => ldHlSp n s
    | .r16 rr, x => ld16 rr x s
    | .ptrImm16 w, .r16 .sp => ldStoreSp w s
    | x, y => ld8 x y s
  | .inc =>
    match r.lhs with
    | .r16 rr => inc16 rr s
    | t => inc8 t s
  | .dec =>
    match r.lhs with
    | .r16 rr => dec16 rr s
    | t => dec8 t s
  | .add =>
    match r.lhs, r.rhs with
    | .r16 .hl, .r16 rr => addHl rr s
    | .r16 .sp, x => addSp x s
    | _, x => addA x s
  | .adc => adcA r.rhs s
  | .sub => subA r.rhs s
  | .sbc => sbcA r.rhs s
  | .and => andA r.rhs s
  | .xor => xorA r.rhs s
  | .or => orA r.rhs s
  | .cp => cpA r.rhs s
  | .rlca => rlca s
  | .rrca => rrca s
  | .rla => rla s
  | .rra => rra s
  | .daa => daa s
  | .cpl => cpl s
  | .scf => scf s
  | .ccf => ccf s
  | .jr => jr r.lhs r.rhs s
  | .jp =>
    match r.lhs with
    | .r16 .hl => jpHl s
    | k => jp k r.rhs s
  | .call => call r.lhs r.rhs s
  | .ret => ret r.lhs s
  | .reti => reti s
  | .rst => rst r.lhs s
  | .push =>
    match r.lhs with
    | .r16 rr => push rr s
    | _ => s
  | .pop =>
    match r.lhs with
    | .r16 rr => pop rr s
    | _ => s
  | .halt => halt s
  | .stop => stop r.lhs s
  | .di => di s
  | .ei => ei s
  | .rlc => rlc r.lhs s
  | .rrc => rrc r.lhs s
  | .rl => rl r.lhs s
  | .rr => rr r.lhs s
  | .sla => sla r.lhs s
  | .sra => sra r.lhs s
  | .swap => swap r.lhs s
  | .srl => srl r.lhs s
  | .bit => bitTest r.lhs (rd8 r.rhs s).toNat s
  | .res => bitReset r.lhs (rd8 r.rhs s).toNat s
  | .set => bitSet r.lhs (rd8 r.rhs s).toNat s
  | .prefixCb => s
  | .illegal => illegal s

/-! ### Loading bytes from outside -/

/-- A cartridge image in which address `n` holds `v`; an image that was too short grows by bytes that read as the
open bus did. -/
def imageWith (image : Option (List Byte)) (n : Nat) (v : Byte) : List Byte :=
  let img := image.getD []
  (img ++ List.replicate (n + 1 - img.length) Config.openBus).set n v

/-- The host puts a byte where a fetch reads it: the boot ROM image, the cartridge image or the store (R37, R38). -/
def State.loadByte (s : State) (a : Word) (v : Byte) : State :=
  let n := a.toNat
  if s.bus.bootRomActive = true ∧ n ≤ Config.bootEnd then
    { s with bus := { s.bus with bootRom := Memory.store s.bus.bootRom n v } }
  else if n ≤ Config.cartEnd then
    { s with bus := { s.bus with cart := some (imageWith s.bus.cart n v) } }
  else if isVolatile n then
    { s with bus := { s.bus with io := Memory.store s.bus.io n v } }
  else
    { s with bus := { s.bus with ram := Memory.store s.bus.ram n v } }

/-- Let the next step be the instruction at PC: a Halted CPU is awake, an interrupt that is due waits one step, and
where the instruction lies in `VOLATILE` the host leaves it alone. -/
def State.readyToFetch (s : State) : State :=
  let inVolatile := isVolatile s.pc.toNat || isVolatile (s.pc + 1).toNat || isVolatile (s.pc + 2).toNat
  { s.awake with
    eiInhibit := s.eiInhibit || (s.irqDispatch && s.ime)
    host := if inVolatile then { irqPending := false, changes := [] } :: s.host else s.host }

end Sys2Proof.Machine
end

