-- ==== Sys2Proof/Machine/Step.lean ====
section
/-! DEFINITION. One step of the CORE, and the state whose next step runs a given instruction. -/

namespace Sys2Proof.Machine

/-- One step (spec/40_engine.md R84), without the cost that `runStep` returns beside the state. -/
def step (s : State) : Host.Outcome State Fault Refusal :=
  match runStep s with
  | .next x => .next x.1
  | .fault r => .fault r
  | .refused r => .refused r

/-- The state whose next step fetches and runs the instruction whose bits the opcode table numbers as `w`: its bytes
stand at PC, where the host's images and memory are read (log entry 3, log entry 9). -/
def State.withFetchWord (s : State) (nbits w : Nat) : State :=
  let x := tableBytes nbits w
  (((s.loadByte s.pc x.1).loadByte (s.pc + 1) x.2.1).loadByte (s.pc + 2) x.2.2).readyToFetch

end Sys2Proof.Machine
end

