-- ==== Sys2Proof/Machine/Reset.lean ====
section
/-! DEFINITION. Reset as the construction of the CORE (spec/70_reset_and_hazards.md R192 to R201), from the host's
inputs and the draws that the spec leaves unspecified, and what the host may read between steps
(spec/10_state.md R31). -/

namespace Sys2Proof.Machine

/-- The host's inputs (R192) and the reset draws (R198, R199). -/
structure ResetInput where
  /-- `BOOT_ROM`, its bytes by address; a cell past 0x00FF is discarded (R192). -/
  bootRom : List Host.Cell
  /-- `CART`, or absent (R192). -/
  cart : Option (List Byte)
  /-- The option `IRQ_DISPATCH` (spec/60_exceptions.md R178). -/
  irqDispatch : Bool
  /-- The draw of A (R198). -/
  a : Byte
  /-- The draw of F[7:4]; its low nibble is discarded (R198). -/
  f : Byte
  b : Byte
  c : Byte
  d : Byte
  e : Byte
  h : Byte
  l : Byte
  sp : Word
  /-- The draw of RAM, 0x8000-0xFFFF (R199): a cell of another address is discarded. -/
  memory : List Host.Cell
  /-- The host's later inputs, as far as they are known. -/
  host : List HostInput
  deriving DecidableEq, Repr

/-- The state after reset, for every host input and every draw (R193 to R200). -/
def construct (x : ResetInput) : State where
  a := x.a
  f := x.f &&& 0xF0
  b := x.b
  c := x.c
  d := x.d
  e := x.e
  h := x.h
  l := x.l
  sp := x.sp
  pc := 0x0000
  mode := .booting
  ime := false
  eiInhibit := false
  cycleCount := 0
  bus := {
    bootRomActive := true
    ram := Memory.storeAll isPlainRam [] x.memory
    io := Memory.storeAll isVolatile [] x.memory
    bootRom := Memory.storeAll (fun n => decide (n ≤ Config.bootEnd)) [] x.bootRom
    cart := x.cart }
  irqDispatch := x.irqDispatch
  host := x.host
  tick := 0

/-- Why construction fails. -/
inductive ConstructFailure
  /-- The caller requires a cartridge and its image could not be loaded (R201). -/
  | cartridgeNotLoaded
  deriving DecidableEq, Repr

/-- Construction by a caller that may require a cartridge: an explicit failure and no CORE state when it is required
and there is none (R201). -/
def constructOrFail (cartRequired : Bool) (x : ResetInput) : Except ConstructFailure State :=
  if cartRequired && x.cart.isNone then .error .cartridgeNotLoaded else .ok (construct x)

/-- What the host may read between steps (spec/10_state.md R31). -/
structure Introspection where
  a : Byte
  f : Byte
  b : Byte
  c : Byte
  d : Byte
  e : Byte
  h : Byte
  l : Byte
  af : Word
  bc : Word
  de : Word
  hl : Word
  sp : Word
  pc : Word
  mode : Mode
  ime : Bool
  cycleCount : BitVec 64
  deriving DecidableEq, Repr

/-- Introspection: a function of the state that changes nothing (R31). -/
def State.introspect (s : State) : Introspection where
  a := s.a
  f := s.f
  b := s.b
  c := s.c
  d := s.d
  e := s.e
  h := s.h
  l := s.l
  af := s.reg16 .af
  bc := s.reg16 .bc
  de := s.reg16 .de
  hl := s.reg16 .hl
  sp := s.sp
  pc := s.pc
  mode := s.mode
  ime := s.ime
  cycleCount := s.cycleCount

end Sys2Proof.Machine
end

