-- ==== Sys2Proof/Safety.lean ====
section
/-! DEFINITION. The terms in which claims speak: the invariant of the reachable states, safe runs, one instruction
with its length and cost, the operand fields of an opcode, and what an instruction may write. -/

namespace Sys2Proof.Machine

/-! ### Runs -/

/-- The invariant: F[3:0] = 0 (spec/10_state.md R16), the bus in form, and the boot ROM unmapped in Running
(spec/40_engine.md R88). -/
structure State.Inv (s : State) : Prop where
  lowNibble : s.f &&& 0x0F = 0
  busForm : Bus.wf s.bus
  runningUnmapped : s.mode = .running → s.bus.bootRomActive = false

/-- The outcome of `k` steps, stopping at the first that does not answer a next state. -/
def steps : Nat → State → Out
  | 0, s => .next s
  | k + 1, s =>
    match step s with
    | .next t => steps k t
    | .fault r => .fault r
    | .refused r => .refused r

/-- A safe run: each of `k` steps answers a next state. -/
def SafeRun (k : Nat) (s : State) : Prop := ∃ t, steps k s = .next t

/-! ### One instruction -/

/-- The instruction `i`, in a state whose PC is past it, answers `t`; it is `len` bytes long and costs `n` cycles. -/
structure Runs (i : Instr) (s t : State) (len n : Nat) : Prop where
  answers : exec i s = .next t
  length : i.length = len
  cost : cost i s = n

/-- An opcode byte by its number. -/
abbrev op (n : Nat) : Byte := BitVec.ofNat 8 n

/-- The register field of an 8-bit register (spec/30_encoding.md R59). -/
def regField : Reg8 → Nat
  | .b => 0
  | .c => 1
  | .d => 2
  | .e => 3
  | .h => 4
  | .l => 5
  | .a => 7

/-- The registers of field `p` for LD rr,d16, INC rr, DEC rr and ADD HL,rr (R60). -/
def rpField : Fin 4 → Reg16 := ![.bc, .de, .hl, .sp]

/-- The registers of field `p` for PUSH and POP (R60). -/
def rp2Field : Fin 4 → Reg16 := ![.bc, .de, .hl, .af]

/-- When the conditional transfer of field `cc` is taken, in the source's polarity (R61). -/
def ccTaken (s : State) : Fin 4 → Bool := ![s.zf, !s.zf, s.cf, !s.cf]

/-- A state pushed onto: `v` below SP, the high byte at SP - 1 and the low byte at SP - 2 (spec/20_memory.md R46). -/
def pushed (s : State) (v : Word) : State :=
  { (s.write (s.sp - 1) (hi v)).write (s.sp - 2) (lo v) with sp := s.sp - 2 }

/-- The forms of the ALU operation `ooo` (spec/42_alu8.md R119): the opcode `o`, followed by the byte `b1`, has the
source byte `src`, is `len` bytes long and costs `n` cycles. -/
def AluForm (ooo : Nat) (o b1 : Byte) (s : State) (src : Byte) (len n : Nat) : Prop :=
  (∃ z : Fin 8, o = op (0x80 + 8 * ooo + z) ∧ src = rd8 (r8Operand z) s ∧ len = 1 ∧ n = if z = 6 then 2 else 1) ∨
  (o = op (0xC6 + 8 * ooo) ∧ src = b1 ∧ len = 2 ∧ n = 2)

/-! ### Lists of bytes from outside -/

/-- The byte that a list of cells, applied in order, leaves at an address: that of the last cell for it, and none where no
cell names it (spec/20_memory.md R42, spec/70_reset_and_hazards.md R192, R199). -/
def lastByte (xs : List Host.Cell) (n : Nat) : Option Byte := (xs.reverse.find? (fun x => x.1 == n)).map Prod.snd

/-! ### What an instruction may write -/

/-- The addresses the execute phase of an instruction stores to, in order, each computed with the operand functions
the meaning uses (spec/20_memory.md R48). -/
def storedAt (r : Record) (s : State) : List Word :=
  match r.kind with
  | .ld =>
    match resolve r.lhs s, r.rhs with
    | .mem a, .r16 _ => [a, a + 1]
    | .mem a, _ => [a]
    | _, _ => []
  | .inc | .dec | .rlc | .rrc | .rl | .rr | .sla | .sra | .swap | .srl | .res | .set =>
    match resolve r.lhs s with
    | .mem a => [a]
    | _ => []
  | .push | .rst => [s.sp - 1, s.sp - 2]
  | .call => if taken r.lhs s then [s.sp - 1, s.sp - 2] else []
  | _ => []

/-- The 8-bit registers of a 16-bit register's bytes that an operand can name. -/
def halves : Reg16 → List Reg8
  | .af => [.a]
  | .bc => [.b, .c]
  | .de => [.d, .e]
  | .hl => [.h, .l]
  | .sp => []

/-- The registers an argument's access changes: HL for a post-increment or post-decrement (spec/40_engine.md R81). -/
def accessWrites : Arg → List Reg8
  | .ptrInc | .ptrDec => [.h, .l]
  | _ => []

/-- The registers a destination argument names. -/
def destWrites : Arg → List Reg8
  | .r8 r => [r]
  | .r16 rr => halves rr
  | _ => []

/-- The 8-bit registers an instruction may write: its destination, the accumulator of the accumulator operations, and
HL where its pointer is post-incremented or post-decremented (spec/10_state.md R20). -/
def writtenReg8 (r : Record) : List Reg8 :=
  match r.kind with
  | .ld => destWrites r.lhs ++ accessWrites r.lhs ++ accessWrites r.rhs
  | .inc | .dec | .add | .pop | .rlc | .rrc | .rl | .rr | .sla | .sra | .swap | .srl | .res | .set => destWrites r.lhs
  | .adc | .sub | .sbc | .and | .xor | .or | .daa | .cpl | .rlca | .rrca | .rla | .rra => [.a]
  | _ => []

/-- Whether an instruction may write SP (spec/10_state.md R21). -/
def writesSp (r : Record) : Bool :=
  match r.kind with
  | .ld | .inc | .dec | .add => r.lhs == .r16 .sp
  | .push | .pop | .call | .ret | .reti | .rst => true
  | _ => false

/-- Whether an instruction may write PC beyond its advance (spec/10_state.md R22). -/
def transfers : Kind → Bool
  | .jr | .jp | .call | .ret | .reti | .rst => true
  | _ => false

/-- A flag after an instruction, as an entry of the table's `flags` column has it (spec/30_encoding.md R75). -/
def flagAllows (e : FlagEffect) (before after : Bool) : Prop :=
  match e with
  | .computed => True
  | .zero => after = false
  | .one => after = true
  | .keep => after = before

/-- The two decimal digits of a byte as a number. -/
def bcdValue (v : Byte) : Nat := 10 * (v.toNat / 16) + v.toNat % 16

/-- Both nibbles of a byte are decimal digits. -/
def isBcd (v : Byte) : Prop := v.toNat / 16 ≤ 9 ∧ v.toNat % 16 ≤ 9

end Sys2Proof.Machine
end

