-- ==== Sys2Proof/Certificates/Slice0/Obligations.lean ====
section
/-! DEFINITION. The statements for the provers, from the numbered rules of spec/. In a statement about an instruction
`s` is the state of its execute phase, whose PC is already past the instruction (spec/40_engine.md R84, R85), `b1` and
`b2` are the bytes after the opcode, and `Runs i s t len n` says that `exec i s` answers `t`, with the instruction's
length and cost. A next state written as a record update of `s` says the frame too: every register, flag, memory byte
and control bit that the update does not name is unchanged. -/

open Sys2Proof Sys2Proof.Machine

/-! ### Encoding and decoding -/

/-- Nine words written out from the encodings of spec/30_encoding.md R57, R64, R68 and R69 decode to the instructions they
stand for, with no byte left but those past the instruction. The tenth clause is no word of the spec: that a list which
ends after the prefix byte 0xCB is refused as truncated is the model's own choice (log entry 16), and the CORE, whose
stream is the whole address space, never meets it. -/
def Obligations.KnownWordsDecode : Prop :=
  decode [0x01, 0xFE, 0xCA] = .ok (.ld_bc_d16 0xCAFE, []) ∧
  decode [0xE0, 0x50, 0x00] = .ok (.ldh_ma8_a 0x50, [0x00]) ∧
  decode [0x8E] = .ok (.adc_a_mhl, []) ∧
  decode [0x39] = .ok (.add_hl_sp, []) ∧
  decode [0xCB, 0x7C] = .ok (.bit_7_h, []) ∧
  decode [0xCB, 0x1F] = .ok (.rr_a, []) ∧
  decode [0xDC, 0x34, 0x12] = .ok (.call_c_a16 0x1234, []) ∧
  decode [0xF3] = .ok (.di, []) ∧
  decode [0xFC] = .ok (.illegal_fc, []) ∧
  decode [0xCB] = .error .truncated

/-- Decoding an encoded instruction gives it back, with every operand, and leaves the bytes after it. -/
def Obligations.DecodeOfEncodeIsIdentity : Prop :=
  ∀ (i : Instr) (rest : List Byte), i.wellFormed = true → decode (encode i ++ rest) = .ok (i, rest)

/-- The other direction: what three bytes decode to is well formed, and its encoding is the bytes it was read from. So
no two words of the table overlap. -/
def Obligations.EncodeOfDecodeIsTheBytesRead : Prop :=
  ∀ b0 b1 b2 : Byte,
    (decode3 b0 b1 b2).wellFormed = true ∧
    encode (decode3 b0 b1 b2) = [b0, b1, b2].take (decode3 b0 b1 b2).length

/-- The length is 1, 2 or 3 and is learnt from byte 0 alone (R57). -/
def Obligations.LengthIsKnownFromByteZero : Prop :=
  ∀ b0 b1 b2 b1' b2' : Byte,
    (decode3 b0 b1 b2).length = (decode3 b0 b1' b2').length ∧
    1 ≤ (decode3 b0 b1 b2).length ∧ (decode3 b0 b1 b2).length ≤ 3 ∧
    (b0 = 0xCB → (decode3 b0 b1 b2).length = 2)

/-- Every table entry passes the self-check of R66: a base entry's length is its opcode byte plus the payload sizes, of
which at most one is nonzero; an extended entry has length 2, a register or (HL) on the left, and nothing or a literal
on the right. -/
def Obligations.TableEntriesPassTheSelfCheck : Prop :=
  ∀ i : Instr, i.wellFormed = true →
    (∀ o, i.record.opcode = .base o →
      i.record.length = 1 + i.record.lhs.payloadSize + i.record.rhs.payloadSize ∧
      (i.record.lhs.payloadSize = 0 ∨ i.record.rhs.payloadSize = 0)) ∧
    (∀ o, i.record.opcode = .cb o →
      i.record.length = 2 ∧
      ((∃ r, i.record.lhs = .r8 r) ∨ i.record.lhs = .ptr .hl) ∧
      (i.record.rhs = .none ∨ ∃ n, i.record.rhs = .lit n))

/-- The costs of the tables. Only a conditional transfer has a taken extra: 1 for JR cc and JP cc, 3 for CALL cc and
RET cc (R87); the entry is conditional when its condition kind is not `none`. An extended entry costs 2 with a register
operand, 4 with (HL), and 3 for BIT y,(HL), the prefix included (R69, R140). -/
def Obligations.CostsOfTheTables : Prop :=
  (∀ i : Instr,
    (∀ k, k ≠ CondKind.none → i.record.lhs = .cond k →
      i.record.takenExtra = if i.record.kind = .call ∨ i.record.kind = .ret then 3 else 1) ∧
    ((∀ k, i.record.lhs = .cond k → k = .none) → i.record.takenExtra = 0)) ∧
  ∀ (x y : Fin 4) (h : Fin 2) (z : Fin 8) (b2 : Byte),
    let i := decode3 0xCB (op (64 * x + 32 * h + 8 * y + z)) b2
    i.length = 2 ∧ i.record.takenExtra = 0 ∧
    i.record.cycles = if z = 6 then (if x = 1 then 3 else 4) else 2

/-- The meaning of every instruction is the execute phase read from its table record: the operation of its kind on its
arguments (spec/40_engine.md R84). -/
def Obligations.ExecAgreesWithTheTableRecord : Prop :=
  ∀ (i : Instr) (s : State), i.wellFormed = true → exec i s = .next (executeRecord i.record s)

/-- The decoder gives no prefix entry, since 0xCB and its selector decode to the extended entry (spec/30_encoding.md R67,
spec/46_system.md R173). What the other two clauses say is the model's choice (log entry 7), which no rule gives: `exec` of
the constructor `prefix_cb`, which R173 says is never executed, answers a next state, and it is that of the extended entry
its selector indexes. -/
def Obligations.PrefixRunsTheExtendedEntry : Prop :=
  ∀ (sel b2 : Byte) (s : State),
    exec (.prefix_cb sel) s = exec (decode3 0xCB sel b2) s ∧
    (∃ t, exec (.prefix_cb sel) s = .next t) ∧
    ∀ b0 b1 b2 : Byte, decode3 b0 b1 b2 ≠ .prefix_cb sel

/-! ### The step -/

/-- A step that neither idles nor dispatches fetches the three bytes at PC, advances PC by the length of the instruction
they decode to, runs `exec` on it, ends Booting where the boot ROM is unmapped, and charges its cost (R77, R84, R85, R87,
R88). Before that stand the wake and the clearing of `ei_inhibit` (R84). Two things here are the model's choices: that the
host's input lands at the start of the step, `s.boundary` (log entry 4, DESIGN CHOICE), and that three bytes are read
whatever the length of the instruction (log entry 11, DEDUCED). -/
def Obligations.StepRunsTheDecodedInstruction : Prop :=
  ∀ (s s1 t : State) (i : Instr),
    (s.boundary.mode = .halted → s.boundary.wakes s.hostInput.irqPending = true) →
    s1 = s.boundary.awake →
    s1.dispatchDue = false →
    i = decode3 (s1.read s1.pc) (s1.read (s1.pc + 1)) (s1.read (s1.pc + 2)) →
    exec i { s1 with eiInhibit := false, pc := s1.pc + BitVec.ofNat 16 i.length } = .next t →
    step s = .next
      { t with
        mode := if t.mode = .booting ∧ t.bus.bootRomActive = false then .running else t.mode
        cycleCount := t.cycleCount + BitVec.ofNat 64 (cost i s1) }

/-- No step fails: each answers a next state, from every state (R91, R176), so every run is safe. -/
def Obligations.EveryRunIsSafe : Prop :=
  (∀ (i : Instr) (s : State), ∃ t, exec i s = .next t) ∧ ∀ (k : Nat) (s : State), SafeRun k s

/-- A Halted step whose wake condition does not hold charges one cycle; no register, flag, mode, latch, RAM byte or
image changes, and PC stays (R89). What the host changes in `VOLATILE` at the boundary, and the model's own `host` and
`tick`, are the boundary's: that it stands at the start of the step is the model's choice (log entry 4). -/
def Obligations.HaltedStepIdles : Prop :=
  ∀ s : State, s.mode = .halted → s.boundary.wakes s.hostInput.irqPending = false →
    runStep s = .next ({ s.boundary with cycleCount := s.cycleCount + 1 }, 1) ∧
    step s = .next { s with
      cycleCount := s.cycleCount + 1
      bus := s.boundary.bus
      host := s.host.tail
      tick := s.tick + 1 }

/-- The wake condition: `irq_pending` without `IRQ_DISPATCH`; with it, `IE & IF & 0x1F` is not 0, whatever IME is. The
wake goes to Booting while the boot ROM is mapped, else to Running (R88, R90). A dispatch needs the option, IME, a clear
`ei_inhibit` and a pending source (R84, R181). -/
def Obligations.WakeAndDispatchConditions : Prop :=
  ∀ (s : State) (irq : Bool),
    let sources := s.read 0xFFFF &&& s.read 0xFF0F &&& 0x1F
    (s.irqDispatch = false → s.wakes irq = irq) ∧
    (s.irqDispatch = true → (s.wakes irq = true ↔ sources ≠ 0)) ∧
    (s.mode = .halted → s.awake = { s with mode := if s.bus.bootRomActive then .booting else .running }) ∧
    (s.mode ≠ .halted → s.awake = s) ∧
    (s.dispatchDue = true ↔ s.irqDispatch = true ∧ s.ime = true ∧ s.eiInhibit = false ∧ sources ≠ 0)

/-- What a step returns is what it adds to the cycle counter, modulo 2^64, and it is 1 to 6 (R26, R84). -/
def Obligations.StepCostIsCharged : Prop :=
  ∀ (s t : State) (n : Nat), runStep s = .next (t, n) →
    step s = .next t ∧ t.cycleCount = s.cycleCount + BitVec.ofNat 64 n ∧ 1 ≤ n ∧ n ≤ 6

/-- The mode changes only as R88 says: from Booting to Running, at the end of a step that does not dispatch and leaves the
boot ROM unmapped; to Halted by HALT or STOP, in a step that began outside Halted or woke; out of Halted only where the
wake condition holds. No step goes from Running to Booting. A step ends in Running only with the boot ROM unmapped, and one
that does not dispatch ends in Booting, whatever mode it began in, only with the boot ROM mapped. A step that dispatches an
interrupt does not end Booting, even where its pushes unmap the boot ROM: it changes the mode by the wake alone. That last
clause, and the exception it makes to R88 item 2, are the model's choice (log entry 8, DEDUCED from the order of the
pseudocode of R84), and `s.boundary` stands at the start of the step by log entry 4. -/
def Obligations.ModeTransitions : Prop :=
  ∀ s t : State, s.Inv → step s = .next t →
    (s.mode = .running → t.mode ≠ .booting) ∧
    (t.mode = .running → t.bus.bootRomActive = false) ∧
    ((s.mode = .halted → s.boundary.wakes s.hostInput.irqPending = true) → t.mode = .halted →
      s.boundary.fetch.record.kind = .halt ∨ s.boundary.fetch.record.kind = .stop) ∧
    (s.mode = .halted → t.mode ≠ .halted → s.boundary.wakes s.hostInput.irqPending = true) ∧
    (t.mode = .booting → s.boundary.dispatchDue = false → t.bus.bootRomActive = true) ∧
    (s.boundary.dispatchDue = true → t.mode = s.boundary.awake.mode)

/-! ### The invariant -/

/-- Every step keeps the invariant: F[3:0] = 0, the canonical form of memory, and no mapped boot ROM in Running. -/
def Obligations.StepKeepsTheInvariant : Prop :=
  ∀ s t : State, s.Inv → step s = .next t → t.Inv

/-- The invariant holds after reset, whatever the host's inputs and the draws are. -/
def Obligations.ResetSatisfiesTheInvariant : Prop :=
  State.reset.Inv ∧ ∀ x : ResetInput, (construct x).Inv

/-- No step changes the images the host supplied or the option `IRQ_DISPATCH`, and nothing maps the boot ROM again
(spec/10_state.md R27, spec/20_memory.md R37). -/
def Obligations.ConstantsOfTheMachine : Prop :=
  ∀ s t : State, step s = .next t →
    t.bus.bootRom = s.bus.bootRom ∧ t.bus.cart = s.bus.cart ∧ t.irqDispatch = s.irqDispatch ∧
    (s.bus.bootRomActive = false → t.bus.bootRomActive = false)

/-! ### Reset -/

/-- The reset state for every host input and every draw (R192 to R199): the values the spec gives; the drawn registers as
they were drawn, F's low nibble 0; every byte of RAM as it was drawn; the boot ROM over 0x0000-0x00FF with the bytes of the
host's image; the host's cartridge and option. The model's choices here: a draw and an image are lists of cells of which
the last one for an address counts, and a byte that such a list does not name is 0x00 (log entries 2, 3 and 15); and
`State.reset` is the constructed state whose registers and RAM are drawn as 0, with a blank boot ROM, no cartridge, the
option off and no scheduled host input (log entries 1 to 5). -/
def Obligations.ResetState : Prop :=
  (∀ x : ResetInput,
    let s := construct x
    s.mode = .booting ∧ s.pc = 0x0000 ∧ s.bus.bootRomActive = true ∧ s.cycleCount = 0 ∧
    s.ime = false ∧ s.eiInhibit = false ∧
    s.a = x.a ∧ s.b = x.b ∧ s.c = x.c ∧ s.d = x.d ∧ s.e = x.e ∧ s.h = x.h ∧ s.l = x.l ∧ s.sp = x.sp ∧
    s.zf = x.f.getLsbD 7 ∧ s.nf = x.f.getLsbD 6 ∧ s.hf = x.f.getLsbD 5 ∧ s.cf = x.f.getLsbD 4 ∧
    (∀ k < 4, s.f.getLsbD k = false) ∧
    (∀ a : Word, 0x7FFF < a.toNat → s.read a = (lastByte x.memory a.toNat).getD 0x00) ∧
    (∀ a : Word, a.toNat ≤ 0x00FF → s.read a = (lastByte x.bootRom a.toNat).getD 0x00) ∧
    (∀ a : Word, 0x00FF < a.toNat → a.toNat ≤ 0x7FFF → s.read a = (x.cart.getD []).getD a.toNat 0xFF) ∧
    s.bus.cart = x.cart ∧ s.irqDispatch = x.irqDispatch ∧ s.host = x.host ∧ s.tick = 0) ∧
  State.reset = construct
    { bootRom := [], cart := none, irqDispatch := false, a := 0, f := 0, b := 0, c := 0, d := 0, e := 0, h := 0, l := 0,
      sp := 0, memory := [], host := [] }

/-- Construction fails exactly when a cartridge is required and its image is absent; without one the cartridge window
reads 0xFF above the overlay (R201). -/
def Obligations.ConstructionFailsWithoutARequiredCartridge : Prop :=
  ∀ (required : Bool) (x : ResetInput),
    (required = true ∧ x.cart = none → constructOrFail required x = .error .cartridgeNotLoaded) ∧
    (¬(required = true ∧ x.cart = none) → constructOrFail required x = .ok (construct x)) ∧
    (x.cart = none → ∀ a : Word, 0x00FF < a.toNat → a.toNat ≤ 0x7FFF → (construct x).read a = 0xFF)

/-! ### Registers -/

/-- The pairs are views: the first-named register is the high byte, a write of the view sets both bytes, a write of one
byte leaves the other, and F keeps a low nibble of 0 (R14, R15, R16). -/
def Obligations.PairsAreViewsOfTheirBytes : Prop :=
  ∀ (s : State) (v : Word) (x : Byte),
    (s.setReg16 .bc v).b = hi v ∧ (s.setReg16 .bc v).c = lo v ∧ (s.setReg16 .bc v).reg16 .bc = v ∧
    (s.setReg16 .de v).d = hi v ∧ (s.setReg16 .de v).e = lo v ∧ (s.setReg16 .de v).reg16 .de = v ∧
    (s.setReg16 .hl v).h = hi v ∧ (s.setReg16 .hl v).l = lo v ∧ (s.setReg16 .hl v).reg16 .hl = v ∧
    (s.setReg16 .af v).a = hi v ∧ (s.setReg16 .af v).f = lo v &&& 0xF0 ∧
    (s.setReg16 .af v).reg16 .af = v &&& 0xFFF0 ∧
    (s.reg16 .af).toNat = 256 * s.a.toNat + s.f.toNat ∧
    (s.reg16 .bc).toNat = 256 * s.b.toNat + s.c.toNat ∧
    (s.reg16 .de).toNat = 256 * s.d.toNat + s.e.toNat ∧
    (s.reg16 .hl).toNat = 256 * s.h.toNat + s.l.toNat ∧
    ((s.setReg8 .a x).reg16 .af).toNat = 256 * x.toNat + s.f.toNat ∧
    ((s.setReg8 .b x).reg16 .bc).toNat = 256 * x.toNat + s.c.toNat ∧
    ((s.setReg8 .c x).reg16 .bc).toNat = 256 * s.b.toNat + x.toNat ∧
    ((s.setReg8 .d x).reg16 .de).toNat = 256 * x.toNat + s.e.toNat ∧
    ((s.setReg8 .e x).reg16 .de).toNat = 256 * s.d.toNat + x.toNat ∧
    ((s.setReg8 .h x).reg16 .hl).toNat = 256 * x.toNat + s.l.toNat ∧
    ((s.setReg8 .l x).reg16 .hl).toNat = 256 * s.h.toNat + x.toNat

/-- The flags are bits 7 to 4 of F in the order Z, N, H, C, and a write of the flags keeps each one that is not given
(R17, R118). -/
def Obligations.FlagsOfF : Prop :=
  ∀ (s : State) (z n h c : Bool) (z' n' h' c' : Option Bool),
    (flagByte z n h c).toNat = 128 * bit z + 64 * bit n + 32 * bit h + 16 * bit c ∧
    s.zf = s.f.getLsbD 7 ∧ s.nf = s.f.getLsbD 6 ∧ s.hf = s.f.getLsbD 5 ∧ s.cf = s.f.getLsbD 4 ∧
    s.flags z' n' h' c' =
      { s with
        f := flagByte (z'.getD (s.f.getLsbD 7)) (n'.getD (s.f.getLsbD 6)) (h'.getD (s.f.getLsbD 5))
          (c'.getD (s.f.getLsbD 4)) }

/-- The condition of each kind, in the source's polarity (R82): `zero` is taken when the Zero flag is clear. The opcodes
named NZ, Z, NC and C carry `nzero`, `zero`, `ncarry` and `carry` (R61). -/
def Obligations.ConditionPolarity : Prop :=
  ∀ (s : State) (cc : Fin 4) (o b1 b2 : Byte),
    s.cond .zero = !s.f.getLsbD 7 ∧ s.cond .nzero = s.f.getLsbD 7 ∧
    s.cond .carry = !s.f.getLsbD 4 ∧ s.cond .ncarry = s.f.getLsbD 4 ∧ s.cond .none = true ∧
    (o ∈ [op (0x20 + 8 * cc), op (0xC0 + 8 * cc), op (0xC2 + 8 * cc), op (0xC4 + 8 * cc)] →
      (decode3 o b1 b2).record.lhs = .cond (![.nzero, .zero, .ncarry, .carry] cc))

/-- The operand accessors (R81): `rd8` and `wr8` of a register, of (HL) and the other pointers, of the I/O page, of an
absolute address and of an immediate, which is never written; and HL after a post-increment or post-decrement. -/
def Obligations.OperandAccessors : Prop :=
  ∀ (z : Fin 8) (n v : Byte) (w : Word) (s : State),
    rd8 (r8Operand z) s = ![s.b, s.c, s.d, s.e, s.h, s.l, s.read (cat s.h s.l), s.a] z ∧
    wr8 (r8Operand z) v s =
      ![{ s with b := v }, { s with c := v }, { s with d := v }, { s with e := v }, { s with h := v }, { s with l := v },
        s.write (cat s.h s.l) v, { s with a := v }] z ∧
    (∀ rr, rd8 (.ptr rr) s = s.read (s.reg16 rr) ∧ wr8 (.ptr rr) v s = s.write (s.reg16 rr) v) ∧
    (∀ x ∈ [Arg.ptrInc, Arg.ptrDec], rd8 x s = s.read (cat s.h s.l) ∧ wr8 x v s = s.write (cat s.h s.l) v) ∧
    postAccess .ptrInc s = { s with h := hi (cat s.h s.l + 1), l := lo (cat s.h s.l + 1) } ∧
    postAccess .ptrDec s = { s with h := hi (cat s.h s.l - 1), l := lo (cat s.h s.l - 1) } ∧
    rd8 (.ioImm8 n) s = s.read (cat 0xFF n) ∧ wr8 (.ioImm8 n) v s = s.write (cat 0xFF n) v ∧
    rd8 .ioC s = s.read (cat 0xFF s.c) ∧ wr8 .ioC v s = s.write (cat 0xFF s.c) v ∧
    rd8 (.ptrImm16 w) s = s.read w ∧ wr8 (.ptrImm16 w) v s = s.write w v ∧
    rd8 (.imm8 n) s = n ∧ wr8 (.imm8 n) v s = s

/-! ### Memory -/

/-- `read` of the reference bus (R38, R39): the boot ROM while it is mapped, else the cartridge image below its length,
else 0xFF in the cartridge window; above it the stored byte. That the stored bytes are held in two lists, those of
`VOLATILE` in `io` and the others in `ram`, is the model's choice of data (log entry 6, DESIGN CHOICE); the spec has one
RAM. -/
def Obligations.BusReads : Prop :=
  ∀ (b : Bus) (a : Word),
    (b.bootRomActive = true → a.toNat ≤ 0x00FF → b.read a = Memory.lookup b.bootRom a.toNat) ∧
    (b.bootRomActive = false ∨ 0x00FF < a.toNat → a.toNat ≤ 0x7FFF →
      (∀ image, b.cart = some image → ∀ h : a.toNat < image.length, b.read a = image[a.toNat]) ∧
      (∀ image, b.cart = some image → image.length ≤ a.toNat → b.read a = 0xFF) ∧
      (b.cart = none → b.read a = 0xFF)) ∧
    (0x7FFF < a.toNat →
      b.read a = if 0xFF00 ≤ a.toNat ∧ a.toNat ≤ 0xFF7F ∧ a.toNat ≠ 0xFF50 then Memory.lookup b.io a.toNat
        else Memory.lookup b.ram a.toNat)

/-- `write` of the reference bus (R36, R38): no effect at 0x7FFF and below; above it the byte reads back, and every
other byte reads as before, but for the overlay 0x0000-0x00FF where the write disables the boot ROM. -/
def Obligations.BusWrites : Prop :=
  ∀ (b : Bus) (a : Word) (v : Byte), b.wf →
    (a.toNat ≤ 0x7FFF → b.write a v = b) ∧
    (0x7FFF < a.toNat → (b.write a v).read a = v) ∧
    (∀ a' : Word, a' ≠ a → 0x00FF < a'.toNat ∨ (b.write a v).bootRomActive = b.bootRomActive →
      (b.write a v).read a' = b.read a') ∧
    (b.write a v).wf

/-- The boot-ROM-disable write (R40): a nonzero value at 0xFF50 clears `boot_rom_active`; the byte is stored too. A
write of 0, and a write elsewhere, leave the bit. -/
def Obligations.BootDisableWrite : Prop :=
  ∀ (b : Bus) (v : Byte), b.wf →
    (v ≠ 0 → (b.write 0xFF50 v).bootRomActive = false) ∧
    (b.write 0xFF50 v).read 0xFF50 = v ∧
    (b.write 0xFF50 0).bootRomActive = b.bootRomActive ∧
    ∀ a : Word, a ≠ 0xFF50 → (b.write a v).bootRomActive = b.bootRomActive

/-- Between two steps only bytes of `VOLATILE` = 0xFF00-0xFF7F less 0xFF50 change (R42). There, whatever list of changes
the host gives, the last cell for an address is read back, and a byte that no cell names reads as before. That the changes
come as a list, applied in order at the start of the step, is the model's choice (log entry 4). -/
def Obligations.HostChangesOnlyVolatileBytes : Prop :=
  ∀ (s : State) (a : Word),
    (¬(0xFF00 ≤ a.toNat ∧ a.toNat ≤ 0xFF7F ∧ a ≠ 0xFF50) → s.boundary.read a = s.read a) ∧
    (s.bus.wf → 0xFF00 ≤ a.toNat ∧ a.toNat ≤ 0xFF7F ∧ a ≠ 0xFF50 →
      s.boundary.read a = (lastByte s.hostInput.changes a.toNat).getD (s.read a))

/-- A 16-bit access is two byte accesses, the low byte at the lower address and the high byte at the next one, which
wraps from 0xFFFF to 0x0000 (R43, R44). Above the read-only window each byte stored reads back, and where both lie there
so does the word. -/
def Obligations.SixteenBitAccessesAreLittleEndian : Prop :=
  ∀ (s : State) (a v : Word), s.bus.wf →
    (s.read16 a).toNat = 256 * (s.read (a + 1)).toNat + (s.read a).toNat ∧
    s.write16 a v = { s with bus := (s.bus.write a (op (v.toNat % 256))).write (a + 1) (op (v.toNat / 256)) } ∧
    (0x7FFF < a.toNat → ((s.write16 a v).read a).toNat = v.toNat % 256) ∧
    (0x7FFF < (a + 1).toNat → ((s.write16 a v).read (a + 1)).toNat = v.toNat / 256) ∧
    (0x7FFF < a.toNat → 0x7FFF < (a + 1).toNat → (s.write16 a v).read16 a = v)

/-- Pop16 undoes Push16 where both stack bytes lie above the read-only window, and SP comes back (R46, R47). -/
def Obligations.PopUndoesPush : Prop :=
  ∀ (s : State) (v : Word), s.bus.wf → 0x7FFF < (s.sp - 1).toNat → 0x7FFF < (s.sp - 2).toNat →
    (s.push16 v).pop16 = (v, { s.push16 v with sp := s.sp })

/-! ### Frames over all instructions -/

/-- The memory frame of every instruction: the bytes outside the addresses it stores to read as before, but for the
overlay where it disables the boot ROM; a form that stores nothing leaves the whole bus. The addresses are those of
`storedAt`, computed with the operand functions of the meaning (R48). -/
def Obligations.MemoryFrameOfEveryInstruction : Prop :=
  ∀ (i : Instr) (s t : State), i.wellFormed = true → s.bus.wf → exec i s = .next t →
    (storedAt i.record s = [] → t.bus = s.bus) ∧
    ∀ a : Word, a ∉ storedAt i.record s → 0x00FF < a.toNat ∨ t.bus.bootRomActive = s.bus.bootRomActive →
      t.read a = s.read a

/-- The register frame of every instruction: an 8-bit register changes only if the instruction names it as a
destination, uses it as accumulator or post-increments HL (R20); SP only in the instructions of R21; PC, beyond its
advance, only in a control transfer (R22). -/
def Obligations.RegisterFrameOfEveryInstruction : Prop :=
  ∀ (i : Instr) (s t : State), i.wellFormed = true → exec i s = .next t →
    (∀ r, r ∉ writtenReg8 i.record → t.reg8 r = s.reg8 r) ∧
    (writesSp i.record = false → t.sp = s.sp) ∧
    (transfers i.record.kind = false → t.pc = s.pc)

/-- The control frame of every instruction: only HALT and STOP write the mode (R88), only DI, EI and RETI write IME
(R24), only EI writes `ei_inhibit` (R25), and none writes the cycle counter, the option or the host's schedule. -/
def Obligations.ControlFrameOfEveryInstruction : Prop :=
  ∀ (i : Instr) (s t : State), exec i s = .next t →
    (i.record.kind ≠ .halt → i.record.kind ≠ .stop → t.mode = s.mode) ∧
    (i.record.kind ≠ .di → i.record.kind ≠ .ei → i.record.kind ≠ .reti → t.ime = s.ime) ∧
    (i.record.kind ≠ .ei → t.eiInhibit = s.eiInhibit) ∧
    t.cycleCount = s.cycleCount ∧ t.irqDispatch = s.irqDispatch ∧ t.host = s.host ∧ t.tick = s.tick

/-- The `flags` column of the table (R75): each flag of every instruction is computed, cleared, set or kept as the
column says, and F[3:0] stays 0. -/
def Obligations.FlagsFollowTheTableColumn : Prop :=
  ∀ (i : Instr) (s t : State), i.wellFormed = true → exec i s = .next t →
    flagAllows i.record.flagColumn.z s.zf t.zf ∧ flagAllows i.record.flagColumn.n s.nf t.nf ∧
    flagAllows i.record.flagColumn.h s.hf t.hf ∧ flagAllows i.record.flagColumn.c s.cf t.cf ∧
    (s.f &&& 0x0F = 0 → t.f &&& 0x0F = 0)

/-! ### Loads -/

/-- LD r,r', LD r,(HL), LD (HL),r, LD r,d8 and LD (HL),d8 (R93 to R97). -/
def Obligations.EightBitLoads : Prop :=
  ∀ (dst src : Reg8) (b1 b2 : Byte) (s : State),
    Runs (decode3 (op (0x40 + 8 * regField dst + regField src)) b1 b2) s (s.setReg8 dst (s.reg8 src)) 1 1 ∧
    Runs (decode3 (op (0x46 + 8 * regField dst)) b1 b2) s (s.setReg8 dst (s.read (cat s.h s.l))) 1 2 ∧
    Runs (decode3 (op (0x70 + regField src)) b1 b2) s (s.write (cat s.h s.l) (s.reg8 src)) 1 2 ∧
    Runs (decode3 (op (0x06 + 8 * regField dst)) b1 b2) s (s.setReg8 dst b1) 2 2 ∧
    Runs (decode3 0x36 b1 b2) s (s.write (cat s.h s.l) b1) 2 3

/-- The accumulator loads through BC, DE and a post-incremented or post-decremented HL (R98 to R103). -/
def Obligations.AccumulatorPointerLoads : Prop :=
  ∀ (b1 b2 : Byte) (s : State),
    Runs (decode3 0x0A b1 b2) s { s with a := s.read (cat s.b s.c) } 1 2 ∧
    Runs (decode3 0x1A b1 b2) s { s with a := s.read (cat s.d s.e) } 1 2 ∧
    Runs (decode3 0x02 b1 b2) s (s.write (cat s.b s.c) s.a) 1 2 ∧
    Runs (decode3 0x12 b1 b2) s (s.write (cat s.d s.e) s.a) 1 2 ∧
    Runs (decode3 0x2A b1 b2) s
      { s with a := s.read (cat s.h s.l), h := hi (cat s.h s.l + 1), l := lo (cat s.h s.l + 1) } 1 2 ∧
    Runs (decode3 0x3A b1 b2) s
      { s with a := s.read (cat s.h s.l), h := hi (cat s.h s.l - 1), l := lo (cat s.h s.l - 1) } 1 2 ∧
    Runs (decode3 0x22 b1 b2) s
      { s.write (cat s.h s.l) s.a with h := hi (cat s.h s.l + 1), l := lo (cat s.h s.l + 1) } 1 2 ∧
    Runs (decode3 0x32 b1 b2) s
      { s.write (cat s.h s.l) s.a with h := hi (cat s.h s.l - 1), l := lo (cat s.h s.l - 1) } 1 2

/-- The absolute and I/O-page accumulator loads (R104 to R109). -/
def Obligations.AbsoluteAndIoPageLoads : Prop :=
  ∀ (b1 b2 : Byte) (s : State),
    Runs (decode3 0xFA b1 b2) s { s with a := s.read (cat b2 b1) } 3 4 ∧
    Runs (decode3 0xEA b1 b2) s (s.write (cat b2 b1) s.a) 3 4 ∧
    Runs (decode3 0xF0 b1 b2) s { s with a := s.read (cat 0xFF b1) } 2 3 ∧
    Runs (decode3 0xE0 b1 b2) s (s.write (cat 0xFF b1) s.a) 2 3 ∧
    Runs (decode3 0xF2 b1 b2) s { s with a := s.read (cat 0xFF s.c) } 1 2 ∧
    Runs (decode3 0xE2 b1 b2) s (s.write (cat 0xFF s.c) s.a) 1 2

/-- LD rr,d16, LD (a16),SP and LD SP,HL (R110, R111, R112). -/
def Obligations.SixteenBitLoads : Prop :=
  ∀ (p : Fin 4) (b1 b2 : Byte) (s : State),
    Runs (decode3 (op (0x01 + 16 * p)) b1 b2) s (s.setReg16 (rpField p) (cat b2 b1)) 3 3 ∧
    Runs (decode3 0x08 b1 b2) s ((s.write (cat b2 b1) (lo s.sp)).write (cat b2 b1 + 1) (hi s.sp)) 3 5 ∧
    Runs (decode3 0xF9 b1 b2) s { s with sp := cat s.h s.l } 1 2

/-- LD HL,SP+e8 and ADD SP,e8 (R113, R139): the sum is signed; Z and N are cleared, and H and C are the carries out of
bits 3 and 7 of the unsigned sum of the low byte and e8. -/
def Obligations.StackPointerOffsets : Prop :=
  ∀ (b1 b2 : Byte) (s : State),
    let r := s.sp + (if b1.getLsbD 7 then cat 0xFF b1 else cat 0 b1)
    let f := flagByte false false (decide (16 ≤ s.sp.toNat % 16 + b1.toNat % 16))
      (decide (256 ≤ s.sp.toNat % 256 + b1.toNat))
    Runs (decode3 0xF8 b1 b2) s { s with h := hi r, l := lo r, f := f } 2 3 ∧
    Runs (decode3 0xE8 b1 b2) s { s with sp := r, f := f } 2 4

/-- PUSH rr (R114): the high byte at SP - 1, then the low byte at SP - 2. -/
def Obligations.PushStoresThePair : Prop :=
  ∀ (p : Fin 4) (b1 b2 : Byte) (s : State),
    Runs (decode3 (op (0xC5 + 16 * p)) b1 b2) s (pushed s (s.reg16 (rp2Field p))) 1 4

/-- POP rr (R115, R116): the low byte at SP, the high byte at SP + 1; POP AF discards the low nibble of F. -/
def Obligations.PopLoadsThePair : Prop :=
  ∀ (b1 b2 : Byte) (s : State),
    let low := s.read s.sp
    let high := s.read (s.sp + 1)
    Runs (decode3 0xC1 b1 b2) s { s with b := high, c := low, sp := s.sp + 2 } 1 3 ∧
    Runs (decode3 0xD1 b1 b2) s { s with d := high, e := low, sp := s.sp + 2 } 1 3 ∧
    Runs (decode3 0xE1 b1 b2) s { s with h := high, l := low, sp := s.sp + 2 } 1 3 ∧
    Runs (decode3 0xF1 b1 b2) s { s with a := high, f := low &&& 0xF0, sp := s.sp + 2 } 1 3

/-! ### The 8-bit ALU -/

/-- ADD and ADC (R120, R121), in the register, (HL) and immediate forms of R119: A is the sum modulo 2^8, H the carry
out of bit 3 and C the carry out of bit 7, each with the carry-in. -/
def Obligations.AdditionAndItsFlags : Prop :=
  ∀ (o b1 b2 src : Byte) (s : State) (len n : Nat),
    (AluForm 0 o b1 s src len n →
      Runs (decode3 o b1 b2) s
        { s with
          a := s.a + src
          f := flagByte (decide (s.a + src = 0)) false (decide (16 ≤ s.a.toNat % 16 + src.toNat % 16))
            (decide (256 ≤ s.a.toNat + src.toNat)) } len n) ∧
    (AluForm 1 o b1 s src len n →
      Runs (decode3 o b1 b2) s
        { s with
          a := s.a + src + BitVec.ofNat 8 (bit s.cf)
          f := flagByte (decide (s.a + src + BitVec.ofNat 8 (bit s.cf) = 0)) false
            (decide (16 ≤ s.a.toNat % 16 + src.toNat % 16 + bit s.cf))
            (decide (256 ≤ s.a.toNat + src.toNat + bit s.cf)) } len n)

/-- SUB, SBC and CP (R122, R123, R124): A is the difference modulo 2^8, H and C are borrows, and CP keeps A. -/
def Obligations.SubtractionAndItsFlags : Prop :=
  ∀ (o b1 b2 src : Byte) (s : State) (len n : Nat),
    let f := flagByte (decide (s.a = src)) true (decide (s.a.toNat % 16 < src.toNat % 16))
      (decide (s.a.toNat < src.toNat))
    (AluForm 2 o b1 s src len n → Runs (decode3 o b1 b2) s { s with a := s.a - src, f := f } len n) ∧
    (AluForm 3 o b1 s src len n →
      Runs (decode3 o b1 b2) s
        { s with
          a := s.a - src - BitVec.ofNat 8 (bit s.cf)
          f := flagByte (decide (s.a - src - BitVec.ofNat 8 (bit s.cf) = 0)) true
            (decide (s.a.toNat % 16 < src.toNat % 16 + bit s.cf))
            (decide (s.a.toNat < src.toNat + bit s.cf)) } len n) ∧
    (AluForm 7 o b1 s src len n → Runs (decode3 o b1 b2) s { s with f := f } len n)

/-- AND, XOR and OR (R125, R126, R127). -/
def Obligations.LogicAndItsFlags : Prop :=
  ∀ (o b1 b2 src : Byte) (s : State) (len n : Nat),
    (AluForm 4 o b1 s src len n →
      Runs (decode3 o b1 b2) s
        { s with a := s.a &&& src, f := flagByte (decide (s.a &&& src = 0)) false true false } len n) ∧
    (AluForm 5 o b1 s src len n →
      Runs (decode3 o b1 b2) s
        { s with a := s.a ^^^ src, f := flagByte (decide (s.a = src)) false false false } len n) ∧
    (AluForm 6 o b1 s src len n →
      Runs (decode3 o b1 b2) s
        { s with a := s.a ||| src, f := flagByte (decide (s.a = 0 ∧ src = 0)) false false false } len n)

/-- INC r, INC (HL), DEC r and DEC (HL) (R128 to R131): the byte changes by 1 modulo 2^8, C is kept, and H is set where
the low nibble wraps. -/
def Obligations.IncrementAndDecrementBytes : Prop :=
  ∀ (z : Fin 8) (b1 b2 : Byte) (s : State),
    let v := rd8 (r8Operand z) s
    let n := if z = 6 then 3 else 1
    Runs (decode3 (op (0x04 + 8 * z)) b1 b2) s
      { wr8 (r8Operand z) (v + 1) s with
        f := flagByte (decide (v = 0xFF)) false (decide (v.toNat % 16 = 15)) s.cf } 1 n ∧
    Runs (decode3 (op (0x05 + 8 * z)) b1 b2) s
      { wr8 (r8Operand z) (v - 1) s with
        f := flagByte (decide (v = 0x01)) true (decide (v.toNat % 16 = 0)) s.cf } 1 n

/-- CPL, SCF and CCF (R133, R134, R135). -/
def Obligations.ComplementAndCarryFlag : Prop :=
  ∀ (b1 b2 : Byte) (s : State),
    Runs (decode3 0x2F b1 b2) s { s with a := ~~~s.a, f := flagByte s.zf true true s.cf } 1 1 ∧
    Runs (decode3 0x37 b1 b2) s { s with f := flagByte s.zf false false true } 1 1 ∧
    Runs (decode3 0x3F b1 b2) s { s with f := flagByte s.zf false false (!s.cf) } 1 1

/-- DAA (R132), its adjustment written out: after an addition 0x06 where H is set or the low nibble is above 9, and 0x60
where C is set or A is above 0x99; after a subtraction by H and C alone. N is kept, H cleared, C never cleared. -/
def Obligations.DecimalAdjust : Prop :=
  ∀ (b1 b2 : Byte) (s : State),
    let low : Nat := if s.hf = true ∨ (s.nf = false ∧ 9 < s.a.toNat % 16) then 6 else 0
    let high : Nat := if s.cf = true ∨ (s.nf = false ∧ 0x99 < s.a.toNat) then 0x60 else 0
    let r := if s.nf then s.a - BitVec.ofNat 8 (high + low) else s.a + BitVec.ofNat 8 (high + low)
    Runs (decode3 0x27 b1 b2) s
      { s with a := r, f := flagByte (decide (r = 0)) s.nf false (decide (high = 0x60)) } 1 1

/-- DAA after ADD A,d8 of packed decimal bytes leaves the packed decimal sum modulo 100, and C says whether the sum is
100 or more (derived from R120 and R132). -/
def Obligations.DecimalAdjustAfterAddition : Prop :=
  ∀ (x b2 : Byte) (s t u : State), isBcd s.a → isBcd x →
    exec (decode3 0xC6 x b2) s = .next t → exec (decode3 0x27 x b2) t = .next u →
    isBcd u.a ∧ bcdValue u.a + 100 * bit u.cf = bcdValue s.a + bcdValue x

/-- DAA after SUB A,d8 of packed decimal bytes leaves the packed decimal difference modulo 100, and C says whether it
borrowed (derived from R122 and R132). -/
def Obligations.DecimalAdjustAfterSubtraction : Prop :=
  ∀ (x b2 : Byte) (s t u : State), isBcd s.a → isBcd x →
    exec (decode3 0xD6 x b2) s = .next t → exec (decode3 0x27 x b2) t = .next u →
    isBcd u.a ∧ bcdValue u.a + bcdValue x = bcdValue s.a + 100 * bit u.cf

/-! ### 16-bit arithmetic -/

/-- ADD HL,rr, INC rr and DEC rr (R136, R137, R138): ADD keeps Z, clears N, and takes H and C from bits 11 and 15; INC
and DEC write no flag. -/
def Obligations.SixteenBitArithmetic : Prop :=
  ∀ (p : Fin 4) (b1 b2 : Byte) (s : State),
    let v := s.reg16 (rpField p)
    let r := cat s.h s.l + v
    Runs (decode3 (op (0x09 + 16 * p)) b1 b2) s
      { s with
        h := hi r
        l := lo r
        f := flagByte s.zf false (decide (4096 ≤ (cat s.h s.l).toNat % 4096 + v.toNat % 4096))
          (decide (65536 ≤ (cat s.h s.l).toNat + v.toNat)) } 1 2 ∧
    Runs (decode3 (op (0x03 + 16 * p)) b1 b2) s (s.setReg16 (rpField p) (v + 1)) 1 2 ∧
    Runs (decode3 (op (0x0B + 16 * p)) b1 b2) s (s.setReg16 (rpField p) (v - 1)) 1 2

/-! ### Rotates, shifts and bits -/

/-- RLCA, RRCA, RLA and RRA (R142 to R145): Z, N and H are cleared whatever the result, C is the bit moved out. -/
def Obligations.AccumulatorRotates : Prop :=
  ∀ (b1 b2 : Byte) (s : State),
    Runs (decode3 0x07 b1 b2) s
      { s with a := s.a.rotateLeft 1, f := flagByte false false false (s.a.getLsbD 7) } 1 1 ∧
    Runs (decode3 0x0F b1 b2) s
      { s with a := s.a.rotateRight 1, f := flagByte false false false (s.a.getLsbD 0) } 1 1 ∧
    Runs (decode3 0x17 b1 b2) s
      { s with
        a := BitVec.ofNat 8 (2 * s.a.toNat + bit s.cf)
        f := flagByte false false false (s.a.getLsbD 7) } 1 1 ∧
    Runs (decode3 0x1F b1 b2) s
      { s with
        a := BitVec.ofNat 8 (s.a.toNat / 2 + 128 * bit s.cf)
        f := flagByte false false false (s.a.getLsbD 0) } 1 1

/-- The extended rotates and shifts (R146 to R153): the result is written back once, Z comes from it, N and H are
cleared, and C is the bit moved out (SWAP clears it). -/
def Obligations.ExtendedRotatesAndShifts : Prop :=
  ∀ (z : Fin 8) (b2 : Byte) (s : State),
    let t := r8Operand z
    let v := rd8 t s
    let n := if z = 6 then 4 else 2
    let out : Byte → Bool → State := fun r c =>
      { wr8 t r s with f := flagByte (decide (r = 0)) false false c }
    Runs (decode3 0xCB (op (0x00 + z)) b2) s (out (v.rotateLeft 1) (v.getLsbD 7)) 2 n ∧
    Runs (decode3 0xCB (op (0x08 + z)) b2) s (out (v.rotateRight 1) (v.getLsbD 0)) 2 n ∧
    Runs (decode3 0xCB (op (0x10 + z)) b2) s (out (BitVec.ofNat 8 (2 * v.toNat + bit s.cf)) (v.getLsbD 7)) 2 n ∧
    Runs (decode3 0xCB (op (0x18 + z)) b2) s (out (BitVec.ofNat 8 (v.toNat / 2 + 128 * bit s.cf)) (v.getLsbD 0)) 2 n ∧
    Runs (decode3 0xCB (op (0x20 + z)) b2) s (out (v + v) (v.getLsbD 7)) 2 n ∧
    Runs (decode3 0xCB (op (0x28 + z)) b2) s (out (v.sshiftRight 1) (v.getLsbD 0)) 2 n ∧
    Runs (decode3 0xCB (op (0x30 + z)) b2) s (out (v.rotateLeft 4) false) 2 n ∧
    Runs (decode3 0xCB (op (0x38 + z)) b2) s (out (BitVec.ofNat 8 (v.toNat / 2)) (v.getLsbD 0)) 2 n

/-- BIT b,t (R154): Z is the complement of the bit, N = 0, H = 1, C is kept, and nothing else changes. -/
def Obligations.BitTests : Prop :=
  ∀ (b z : Fin 8) (b2 : Byte) (s : State),
    Runs (decode3 0xCB (op (0x40 + 8 * b + z)) b2) s
      { s with f := flagByte (!(rd8 (r8Operand z) s).getLsbD b) false true s.cf } 2 (if z = 6 then 3 else 2)

/-- RES b,t and SET b,t (R155, R156): the one bit is cleared or set, the other seven keep their value, the byte is
written back, and no flag changes. -/
def Obligations.BitResetsAndSets : Prop :=
  ∀ (b z : Fin 8) (b2 : Byte) (s : State),
    let v := rd8 (r8Operand z) s
    let n := if z = 6 then 4 else 2
    ∃ r q : Byte,
      (∀ k : Fin 8, r.getLsbD k = if k = b then false else v.getLsbD k) ∧
      (∀ k : Fin 8, q.getLsbD k = if k = b then true else v.getLsbD k) ∧
      Runs (decode3 0xCB (op (0x80 + 8 * b + z)) b2) s (wr8 (r8Operand z) r s) 2 n ∧
      Runs (decode3 0xCB (op (0xC0 + 8 * b + z)) b2) s (wr8 (r8Operand z) q s) 2 n

/-! ### Control transfer -/

/-- JR, JR cc, JP, JP cc and JP HL (R157 to R161): the relative target is measured from the post-fetch PC, and a
conditional jump that is not taken leaves PC there at the base cost. -/
def Obligations.Jumps : Prop :=
  ∀ (cc : Fin 4) (b1 b2 : Byte) (s : State),
    let near := s.pc + (if b1.getLsbD 7 then cat 0xFF b1 else cat 0 b1)
    let far := cat b2 b1
    Runs (decode3 0x18 b1 b2) s { s with pc := near } 2 3 ∧
    (ccTaken s cc = true → Runs (decode3 (op (0x20 + 8 * cc)) b1 b2) s { s with pc := near } 2 3) ∧
    (ccTaken s cc = false → Runs (decode3 (op (0x20 + 8 * cc)) b1 b2) s s 2 2) ∧
    Runs (decode3 0xC3 b1 b2) s { s with pc := far } 3 4 ∧
    (ccTaken s cc = true → Runs (decode3 (op (0xC2 + 8 * cc)) b1 b2) s { s with pc := far } 3 4) ∧
    (ccTaken s cc = false → Runs (decode3 (op (0xC2 + 8 * cc)) b1 b2) s s 3 3) ∧
    Runs (decode3 0xE9 b1 b2) s { s with pc := cat s.h s.l } 1 1

/-- CALL, CALL cc and RST (R162, R163, R167): the post-fetch PC is pushed before PC is written; a call that is not taken
pushes nothing. -/
def Obligations.CallsAndRestarts : Prop :=
  ∀ (cc : Fin 4) (y : Fin 8) (b1 b2 : Byte) (s : State),
    Runs (decode3 0xCD b1 b2) s { pushed s s.pc with pc := cat b2 b1 } 3 6 ∧
    (ccTaken s cc = true →
      Runs (decode3 (op (0xC4 + 8 * cc)) b1 b2) s { pushed s s.pc with pc := cat b2 b1 } 3 6) ∧
    (ccTaken s cc = false → Runs (decode3 (op (0xC4 + 8 * cc)) b1 b2) s s 3 3) ∧
    Runs (decode3 (op (0xC7 + 8 * y)) b1 b2) s { pushed s s.pc with pc := BitVec.ofNat 16 (8 * y) } 1 4

/-- RET, RET cc and RETI (R164, R165, R166): PC is popped; RETI sets IME too, and does not set `ei_inhibit`. -/
def Obligations.Returns : Prop :=
  ∀ (cc : Fin 4) (b1 b2 : Byte) (s : State),
    let back := cat (s.read (s.sp + 1)) (s.read s.sp)
    Runs (decode3 0xC9 b1 b2) s { s with pc := back, sp := s.sp + 2 } 1 4 ∧
    (ccTaken s cc = true →
      Runs (decode3 (op (0xC0 + 8 * cc)) b1 b2) s { s with pc := back, sp := s.sp + 2 } 1 5) ∧
    (ccTaken s cc = false → Runs (decode3 (op (0xC0 + 8 * cc)) b1 b2) s s 1 2) ∧
    Runs (decode3 0xD9 b1 b2) s { s with pc := back, sp := s.sp + 2, ime := true } 1 4

/-! ### System instructions -/

/-- NOP, HALT, STOP, DI and EI (R168 to R172). -/
def Obligations.SystemInstructions : Prop :=
  ∀ (b1 b2 : Byte) (s : State),
    Runs (decode3 0x00 b1 b2) s s 1 1 ∧
    Runs (decode3 0x76 b1 b2) s { s with mode := .halted } 1 1 ∧
    Runs (decode3 0x10 b1 b2) s { s with mode := .halted } 2 1 ∧
    Runs (decode3 0xF3 b1 b2) s { s with ime := false } 1 1 ∧
    Runs (decode3 0xFB b1 b2) s { s with ime := true, eiInhibit := true } 1 1

/-- The eleven illegal slots are no-ops of one byte and one cycle: no trap and no mode change (R71, R174). -/
def Obligations.IllegalOpcodesAreNoOps : Prop :=
  ∀ (o b1 b2 : Byte) (s : State),
    o ∈ ([0xD3, 0xDB, 0xDD, 0xE3, 0xE4, 0xEB, 0xEC, 0xED, 0xF4, 0xFC, 0xFD] : List Byte) →
    Runs (decode3 o b1 b2) s s 1 1

/-! ### Interrupts -/

/-- Taking an interrupt (R180, R182, R183): with the option on, IME set, no inhibit and a source pending, the step
dispatches the lowest pending source `n`: IME is cleared, bit `n` of IF acknowledged, PC pushed, PC set to 0x40 + 8·n,
5 cycles charged, and no instruction runs. A Halted CPU wakes in the same step (R84). The pushes are writes like any
other: where a nonzero byte of PC falls on 0xFF50 (SP = 0xFF51 or 0xFF52) it clears `boot_rom_active` (R40, R46), although
R183 says that a dispatch does not change it. The model's choices: such a step leaves the mode at Booting (log entry 8,
DEDUCED), and the host's changes land before the check (log entry 4, DESIGN CHOICE). -/
def Obligations.InterruptDispatch : Prop :=
  ∀ (s : State) (n : Fin 5),
    let s1 := s.boundary
    let flag := s1.read 0xFF0F
    let pending := s1.read 0xFFFF &&& flag &&& 0x1F
    s.irqDispatch = true → s.ime = true → s.eiInhibit = false →
    pending.getLsbD n = true → (∀ k < n, pending.getLsbD k = false) →
    step s = .next
      { pushed { s1.write 0xFF0F (flag &&& ~~~(op (2 ^ (n : Nat)))) with ime := false } s.pc with
        pc := BitVec.ofNat 16 (0x40 + 8 * n)
        mode := if s.mode = .halted then (if s.bus.bootRomActive then .booting else .running) else s.mode
        cycleCount := s.cycleCount + 5 }

/-- EI takes effect for the dispatch check after the instruction that follows it: the step after a step that ran EI runs
the instruction at PC, whatever is pending; where that instruction is neither EI nor DI, the inhibit is then clear and the
next check dispatches if the option is on and a source is pending. EI again renews the inhibit, and DI cancels the enable.
DI and RETI take effect at once: the step after DI runs an instruction, and the one after RETI dispatches if the option is
on and a source is pending (R166, R171, R172, R207). That the host's input lands before each check, in `boundary`, is the
model's choice (log entry 4). -/
def Obligations.EiDiAndRetiTiming : Prop :=
  ∀ s t : State, (s.mode = .halted → s.boundary.wakes s.hostInput.irqPending = true) →
    s.boundary.dispatchDue = false → step s = .next t →
    (s.boundary.fetch = .ei →
      t.ime = true ∧ t.eiInhibit = true ∧
      ∃ u n, runInstr t.boundary.clearInhibit = .next (u, n) ∧ step t = .next u ∧
        (t.boundary.fetch = .ei → u.ime = true ∧ u.eiInhibit = true) ∧
        (t.boundary.fetch = .di → u.ime = false) ∧
        (t.boundary.fetch ≠ .ei → u.eiInhibit = false) ∧
        (t.boundary.fetch ≠ .ei → t.boundary.fetch ≠ .di →
          u.boundary.dispatchDue = (u.irqDispatch && u.boundary.pending != 0))) ∧
    (s.boundary.fetch = .di →
      t.ime = false ∧ ∃ u n, runInstr t.boundary.clearInhibit = .next (u, n) ∧ step t = .next u) ∧
    (s.boundary.fetch = .reti →
      t.ime = true ∧ t.eiInhibit = false ∧ t.boundary.dispatchDue = (t.irqDispatch && t.boundary.pending != 0))
end

