-- ==== Sys2Proof/Laws/Memory.lean ====
section
/-! SUPPORT. Laws of the byte store and the bus: what a read gives after a store, and that every operation keeps the
canonical form. -/

namespace Sys2Proof.Machine

theorem Memory.mem_store {m : Memory} {n : Nat} {v : Byte} {x : Host.Cell} (h : x ∈ Memory.store m n v) :
    x = (n, v) ∧ v ≠ Config.unlistedByte ∨ x ∈ m := by
  induction m with
  | nil =>
    simp only [Memory.store, Memory.cons] at h
    split at h <;> simp_all
  | cons c m ih =>
    obtain ⟨k, w⟩ := c
    simp only [Memory.store, Memory.cons] at h
    split_ifs at h <;> simp only [List.mem_cons] at h ⊢ <;> tauto

/-- A store keeps the canonical form. -/
theorem Memory.store_wf {m : Memory} (h : Memory.wf m) (n : Nat) (v : Byte) : Memory.wf (Memory.store m n v) := by
  refine ⟨?_, fun x hx => ?_⟩
  · induction m with
    | nil => simp only [Memory.store, Memory.cons]; split <;> simp
    | cons c m ih =>
      obtain ⟨k, w⟩ := c
      obtain ⟨hs, hv⟩ := h
      have hs' := List.pairwise_cons.mp hs
      have hm : Memory.wf m := ⟨hs'.2, fun x hx => hv x (List.mem_cons_of_mem _ hx)⟩
      simp only [Memory.store, Memory.cons]
      split_ifs with h1 _ h2
      · exact hs
      · refine List.pairwise_cons.mpr ⟨fun x hx => ?_, hs⟩
        rcases List.mem_cons.mp hx with rfl | hx
        · exact h1
        · exact lt_trans h1 (hs'.1 x hx)
      · exact hs'.2
      · exact List.pairwise_cons.mpr ⟨fun x hx => h2 ▸ hs'.1 x hx, hs'.2⟩
      · refine List.pairwise_cons.mpr ⟨fun x hx => ?_, ih hm⟩
        rcases Memory.mem_store hx with ⟨rfl, -⟩ | hx
        · show k < n
          omega
        · exact hs'.1 x hx
  · rcases Memory.mem_store hx with ⟨rfl, hv⟩ | hx
    · exact hv
    · exact h.2 x hx

theorem Memory.lookup_of_forall_ne {m : Memory} {n : Nat} (h : ∀ x ∈ m, x.1 ≠ n) :
    Memory.lookup m n = Config.unlistedByte := by
  induction m with
  | nil => rfl
  | cons c m ih =>
    obtain ⟨k, w⟩ := c
    simp only [List.mem_cons, forall_eq_or_imp] at h
    simp [Memory.lookup, h.1, ih h.2]

/-- A read after a store to the same address gives the byte stored. -/
theorem Memory.lookup_store_same {m : Memory} (h : Memory.wf m) (n : Nat) (v : Byte) :
    Memory.lookup (Memory.store m n v) n = v := by
  induction m with
  | nil => simp only [Memory.store, Memory.cons]; split <;> simp_all [Memory.lookup]
  | cons c m ih =>
    obtain ⟨k, w⟩ := c
    have hs := List.pairwise_cons.mp h.1
    have hm : Memory.wf m := ⟨hs.2, fun x hx => h.2 x (List.mem_cons_of_mem _ hx)⟩
    simp only [Memory.store, Memory.cons]
    split_ifs with h1 hv h2 hv
    · rw [hv]
      refine Memory.lookup_of_forall_ne fun x hx => ?_
      rcases List.mem_cons.mp hx with rfl | hx
      · exact (ne_of_lt h1).symm
      · exact (ne_of_lt (lt_trans h1 (hs.1 x hx))).symm
    · simp [Memory.lookup]
    · rw [hv, h2]
      exact Memory.lookup_of_forall_ne fun x hx => (ne_of_lt (hs.1 x hx)).symm
    · simp [Memory.lookup]
    · simp [Memory.lookup, Ne.symm h2, ih hm]

/-- A store leaves every other address. -/
theorem Memory.lookup_store_other (m : Memory) {n k : Nat} (v : Byte) (h : k ≠ n) :
    Memory.lookup (Memory.store m n v) k = Memory.lookup m k := by
  induction m with
  | nil => simp only [Memory.store, Memory.cons]; split <;> simp [Memory.lookup, h.symm]
  | cons c m ih =>
    obtain ⟨j, w⟩ := c
    simp only [Memory.store, Memory.cons]
    split_ifs with h1 hv h2 hv
    · rfl
    · simp [Memory.lookup, h.symm]
    · subst h2; simp [Memory.lookup, h.symm]
    · subst h2; simp [Memory.lookup, h.symm]
    · simp [Memory.lookup, ih]

theorem Memory.storeAll_wf (keep : Nat → Bool) {m : Memory} (h : Memory.wf m) (xs : List Host.Cell) :
    Memory.wf (Memory.storeAll keep m xs) := by
  induction xs generalizing m with
  | nil => exact h
  | cons x xs ih =>
    simp only [Memory.storeAll, List.foldl_cons]
    split
    · exact ih (Memory.store_wf h _ _)
    · exact ih h

theorem Memory.storeAll_keys (keep : Nat → Bool) {m : Memory} (h : ∀ x ∈ m, keep x.1 = true)
    (xs : List Host.Cell) : ∀ x ∈ Memory.storeAll keep m xs, keep x.1 = true := by
  induction xs generalizing m with
  | nil => exact h
  | cons c xs ih =>
    simp only [Memory.storeAll, List.foldl_cons]
    split
    · refine ih fun x hx => ?_
      rcases Memory.mem_store hx with ⟨rfl, -⟩ | hx
      · assumption
      · exact h x hx
    · exact ih h

/-- The bus write as its three cases. -/
theorem Bus.write_cases (b : Bus) (a : Word) (v : Byte) :
    (a.toNat ≤ Config.cartEnd ∧ b.write a v = b) ∨
    (Config.cartEnd < a.toNat ∧ isVolatile a.toNat = true ∧
      b.write a v = { b with io := Memory.store b.io a.toNat v }) ∨
    (isPlainRam a.toNat = true ∧ b.write a v =
      { b with
        ram := Memory.store b.ram a.toNat v
        bootRomActive := b.bootRomActive && !disablesBoot a v }) := by
  have := a.isLt
  unfold Bus.write isPlainRam
  split_ifs with h1 h2
  · exact .inl ⟨h1, rfl⟩
  · exact .inr (.inl ⟨by omega, h2, rfl⟩)
  · refine .inr (.inr ⟨?_, rfl⟩)
    simp only [Bool.not_eq_true] at h2
    simp [h2]
    omega

/-- A write keeps the bus in form. -/
theorem Bus.write_wf {b : Bus} (h : b.wf) (a : Word) (v : Byte) : (b.write a v).wf := by
  rcases Bus.write_cases b a v with ⟨-, e⟩ | ⟨-, hv, e⟩ | ⟨hp, e⟩ <;> rw [e]
  · exact h
  · refine { h with io := Memory.store_wf h.io _ _, ioAt := fun x hx => ?_ }
    rcases Memory.mem_store hx with ⟨rfl, -⟩ | hx
    · exact hv
    · exact h.ioAt x hx
  · refine { h with ram := Memory.store_wf h.ram _ _, ramAt := fun x hx => ?_ }
    rcases Memory.mem_store hx with ⟨rfl, -⟩ | hx
    · exact hp
    · exact h.ramAt x hx

/-- The host's changes keep the bus in form. -/
theorem Bus.hostChanges_wf {b : Bus} (h : b.wf) (xs : List Host.Cell) : (b.hostChanges xs).wf :=
  { h with io := Memory.storeAll_wf _ h.io xs, ioAt := Memory.storeAll_keys _ h.ioAt xs }

/-- No write touches the images. -/
@[simp] theorem Bus.write_bootRom (b : Bus) (a : Word) (v : Byte) : (b.write a v).bootRom = b.bootRom := by
  unfold Bus.write; split_ifs <;> rfl

@[simp] theorem Bus.write_cart (b : Bus) (a : Word) (v : Byte) : (b.write a v).cart = b.cart := by
  unfold Bus.write; split_ifs <;> rfl

/-- The boot latch after a write. -/
theorem Bus.write_bootRomActive (b : Bus) (a : Word) (v : Byte) :
    (b.write a v).bootRomActive = (b.bootRomActive && !disablesBoot a v) := by
  rcases Bus.write_cases b a v with ⟨h, e⟩ | ⟨-, h, e⟩ | ⟨-, e⟩ <;> rw [e]
  · simp only [disablesBoot, Config.bootDisableAddr, Config.cartEnd] at *
    rw [show (a.toNat == 0xFF50) = false by simp; omega]
    simp
  · simp only [isVolatile, disablesBoot, Bool.and_eq_true, bne_iff_ne] at *
    simp [h.2]

/-- No write maps the boot ROM again (R27). -/
theorem Bus.write_boot_oneWay (b : Bus) (a : Word) (v : Byte) (h : b.bootRomActive = false) :
    (b.write a v).bootRomActive = false := by
  simp [Bus.write_bootRomActive, h]

/-- The fixed base of the bus: the images, the latch downwards, and the form. Every operation of the CORE on the bus is
a sequence of writes, and keeps it. -/
structure Bus.Extends (b b' : Bus) : Prop where
  bootRom : b'.bootRom = b.bootRom
  cart : b'.cart = b.cart
  latch : b.bootRomActive = false → b'.bootRomActive = false
  form : b.wf → b'.wf

theorem Bus.Extends.refl (b : Bus) : b.Extends b := ⟨rfl, rfl, id, id⟩

theorem Bus.Extends.trans {x y z : Bus} (h : x.Extends y) (g : y.Extends z) : x.Extends z :=
  ⟨g.bootRom.trans h.bootRom, g.cart.trans h.cart, g.latch ∘ h.latch, g.form ∘ h.form⟩

theorem Bus.extends_write (b : Bus) (a : Word) (v : Byte) : b.Extends (b.write a v) :=
  ⟨by simp, by simp, Bus.write_boot_oneWay b a v, fun h => Bus.write_wf h a v⟩

theorem Bus.extends_hostChanges (b : Bus) (xs : List Host.Cell) : b.Extends (b.hostChanges xs) :=
  ⟨rfl, rfl, id, fun h => Bus.hostChanges_wf h xs⟩

end Sys2Proof.Machine
end

