-- ==== Sys2Proof/Laws/Bus.lean ====
section
/-! SUPPORT. Laws of bus reads after bus writes (spec/20_memory.md R38, R40, R51) and of the host's changes (R42). -/

namespace Sys2Proof.Machine

/-- `VOLATILE` by its bounds (R7, R42). -/
theorem isVolatile_iff (n : Nat) : isVolatile n = true ↔ 0xFF00 ≤ n ∧ n ≤ 0xFF7F ∧ n ≠ 0xFF50 := by
  simp only [isVolatile, Bool.and_eq_true, decide_eq_true_eq, bne_iff_ne, and_assoc]
  rfl

/-- Above the read-only window a byte that was written reads back. -/
theorem Bus.read_write_same {b : Bus} (h : b.wf) {a : Word} (v : Byte) (ha : Config.cartEnd < a.toNat) :
    (b.write a v).read a = v := by
  have h0 : ¬ a.toNat ≤ Config.cartEnd := by omega
  have h1 : ¬ a.toNat ≤ Config.bootEnd := by simp only [Config.cartEnd, Config.bootEnd] at *; omega
  rcases Bus.write_cases b a v with ⟨h2, -⟩ | ⟨-, hv, e⟩ | ⟨hp, e⟩
  · omega
  · rw [e]; simp [Bus.read, h0, h1, hv, Memory.lookup_store_same h.io]
  · have hv : isVolatile a.toNat = false := by simp [isPlainRam] at hp; exact hp.2
    rw [e]; simp [Bus.read, h0, h1, hv, Memory.lookup_store_same h.ram]

/-- A write leaves every other address, but for the overlay where it disables the boot ROM. -/
theorem Bus.read_write_other (b : Bus) {a a' : Word} (v : Byte) (h : a' ≠ a)
    (ho : Config.bootEnd < a'.toNat ∨ (b.write a v).bootRomActive = b.bootRomActive) :
    (b.write a v).read a' = b.read a' := by
  have hn : a'.toNat ≠ a.toNat := fun e => h (BitVec.eq_of_toNat_eq e)
  rcases Bus.write_cases b a v with ⟨-, e⟩ | ⟨-, -, e⟩ | ⟨-, e⟩
  · rw [e]
  · rw [e]; simp [Bus.read, Memory.lookup_store_other _ v hn]
  · rw [e] at ho ⊢
    rcases ho with ho | ho
    · have : ¬ a'.toNat ≤ Config.bootEnd := by omega
      simp [Bus.read, this, Memory.lookup_store_other _ v hn]
    · simp only at ho
      simp [Bus.read, ho, Memory.lookup_store_other _ v hn]

/-- A write of the read-only window has no effect. -/
theorem Bus.write_readOnly (b : Bus) {a : Word} (v : Byte) (h : a.toNat ≤ Config.cartEnd) : b.write a v = b := by
  simp [Bus.write, h]

/-- The host's changes leave every byte outside `VOLATILE` (R42). -/
theorem Bus.read_hostChanges (b : Bus) (xs : List Host.Cell) {a : Word} (h : isVolatile a.toNat = false) :
    (b.hostChanges xs).read a = b.read a := by
  simp [Bus.read, Bus.hostChanges, h]

@[simp] theorem Bus.hostChanges_bootRomActive (b : Bus) (xs : List Host.Cell) :
    (b.hostChanges xs).bootRomActive = b.bootRomActive := rfl

end Sys2Proof.Machine
end

