-- ==== Sys2Proof/Laws/Cells.lean ====
section
/-! SUPPORT. What storing a list of cells leaves at an address: the last byte the list gives it
(spec/20_memory.md R42, spec/70_reset_and_hazards.md R192, R199). -/

namespace Sys2Proof.Machine

@[simp] theorem lastByte_nil (n : Nat) : lastByte [] n = none := rfl

/-- The cells after the first one win. -/
theorem lastByte_cons (x : Host.Cell) (xs : List Host.Cell) (n : Nat) :
    lastByte (x :: xs) n = (lastByte xs n).or (if x.1 = n then some x.2 else none) := by
  unfold lastByte
  rw [List.reverse_cons, List.find?_append]
  cases xs.reverse.find? (fun x => x.1 == n) with
  | some y => rfl
  | none => by_cases h : x.1 = n <;> simp [h]

/-- An address that `keep` admits reads the last byte the list gives it, else as before. -/
theorem Memory.lookup_storeAll {keep : Nat → Bool} {m : Memory} (hm : Memory.wf m) (xs : List Host.Cell) {n : Nat}
    (hn : keep n = true) :
    Memory.lookup (Memory.storeAll keep m xs) n = (lastByte xs n).getD (Memory.lookup m n) := by
  induction xs generalizing m with
  | nil => rfl
  | cons x xs ih =>
    obtain ⟨k, v⟩ := x
    have step : Memory.storeAll keep m ((k, v) :: xs) =
        Memory.storeAll keep (if keep k then Memory.store m k v else m) xs := rfl
    have form : Memory.wf (if keep k then Memory.store m k v else m) := by
      split
      · exact Memory.store_wf hm k v
      · exact hm
    rw [step, ih form, lastByte_cons]
    by_cases hk : k = n
    · subst hk
      cases lastByte xs k <;> simp [hn, Memory.lookup_store_same hm]
    · cases lastByte xs n
      · split
        · simp [Memory.lookup_store_other m v (Ne.symm hk)]
        · simp
      · rfl

/-- A byte of `VOLATILE` after the host's changes (R42). -/
theorem Bus.read_hostChanges_volatile {b : Bus} (hb : b.wf) (xs : List Host.Cell) {a : Word}
    (ha : isVolatile a.toNat = true) :
    (b.hostChanges xs).read a = (lastByte xs a.toNat).getD (b.read a) := by
  have hv := (isVolatile_iff a.toNat).mp ha
  have h0 : ¬ a.toNat ≤ Config.cartEnd := by simp only [Config.cartEnd]; omega
  have h1 : ¬ a.toNat ≤ Config.bootEnd := by simp only [Config.bootEnd]; omega
  simp only [Bus.read, Bus.hostChanges, h0, h1, ha, and_false, if_false, if_true]
  exact Memory.lookup_storeAll hb.io xs ha

end Sys2Proof.Machine
end

