-- ==== Sys2Proof/Laws/Flags.lean ====
section
/-! SUPPORT. The adders of spec/42_alu8.md R117 in closed form: the result modulo 2^8 or 2^16 and each flag as a
comparison of numbers. -/

namespace Sys2Proof.Machine

theorem toNat_nibble (b : Byte) : (b &&& 0x0F).toNat = b.toNat % 16 := by
  rw [BitVec.toNat_and]; exact Nat.and_two_pow_sub_one_eq_mod b.toNat 4

theorem toNat_lowNibble16 (v : Word) : (v &&& 0x0F).toNat = v.toNat % 16 := by
  rw [BitVec.toNat_and]; exact Nat.and_two_pow_sub_one_eq_mod v.toNat 4

theorem toNat_lowByte16 (v : Word) : (v &&& 0xFF).toNat = v.toNat % 256 := by
  rw [BitVec.toNat_and]; exact Nat.and_two_pow_sub_one_eq_mod v.toNat 8

theorem toNat_low12 (v : Word) : (v &&& 0x0FFF).toNat = v.toNat % 4096 := by
  rw [BitVec.toNat_and]; exact Nat.and_two_pow_sub_one_eq_mod v.toNat 12

/-- `sext_16` as a choice of the high byte (spec/00_scope.md R9). -/
theorem sext16_eq (b : Byte) : sext16 b = if b.getLsbD 7 then cat 0xFF b else cat 0 b := by
  unfold sext16 cat; revert b; decide

/-- An address in the I/O page. -/
theorem ioPage_eq (b : Byte) : 0xFF00 + zext16 b = cat 0xFF b := by
  unfold zext16 cat; revert b; decide

theorem add8_eq (a b : Byte) (cin : Bool) : add8 a b cin =
    { r := a + b + BitVec.ofNat 8 (bit cin)
      z := decide (a + b + BitVec.ofNat 8 (bit cin) = 0)
      h := decide (16 ≤ a.toNat % 16 + b.toNat % 16 + bit cin)
      c := decide (256 ≤ a.toNat + b.toNat + bit cin) } := by
  have hr : BitVec.ofNat 8 (a.toNat + b.toNat + bit cin) = a + b + BitVec.ofNat 8 (bit cin) := by
    apply BitVec.eq_of_toNat_eq; simp
  unfold add8
  simp only [hr, toNat_nibble, gt_iff_lt]
  congr 1

theorem sub8_eq (a b : Byte) (cin : Bool) : sub8 a b cin =
    { r := a - b - BitVec.ofNat 8 (bit cin)
      z := decide (a - b - BitVec.ofNat 8 (bit cin) = 0)
      h := decide (a.toNat % 16 < b.toNat % 16 + bit cin)
      c := decide (a.toNat < b.toNat + bit cin) } := by
  have hr : BitVec.ofInt 8 ((a.toNat : Int) - b.toNat - bit cin) = a - b - BitVec.ofNat 8 (bit cin) := by
    apply BitVec.eq_of_toInt_eq
    simp only [BitVec.toInt_sub, BitVec.toInt_ofInt]
    cases cin <;> simp [bit, BitVec.toInt_eq_toNat_bmod, Int.bmod_def] <;> omega
  unfold sub8
  simp only [hr, toNat_nibble]
  congr 1 <;> simp only [decide_eq_decide] <;> omega

theorem add16_eq (a b : Word) : add16 a b =
    { r := a + b
      h := decide (4096 ≤ a.toNat % 4096 + b.toNat % 4096)
      c := decide (65536 ≤ a.toNat + b.toNat) } := by
  have hr : BitVec.ofNat 16 (a.toNat + b.toNat) = a + b := by
    apply BitVec.eq_of_toNat_eq; simp
  have hm : BitVec.ofNat 16 (2 ^ (Config.hc16Bit + 1) - 1) = 0x0FFF := rfl
  unfold add16
  simp only [hr, hm, toNat_low12, gt_iff_lt]
  congr 1

theorem addsp_eq (sp : Word) (e : Byte) : addsp sp e =
    { r := sp + if e.getLsbD 7 then cat 0xFF e else cat 0 e
      h := decide (16 ≤ sp.toNat % 16 + e.toNat % 16)
      c := decide (256 ≤ sp.toNat % 256 + e.toNat) } := by
  unfold addsp
  rw [sext16_eq, toNat_nibble, toNat_lowNibble16, toNat_lowByte16]
  simp only [gt_iff_lt]
  congr 1

/-- The adjustment of DAA as one number added or subtracted (spec/42_alu8.md R132). -/
theorem daaAdjust_eq (a : Byte) (n h c : Bool) : daaAdjust a n h c =
    let low : Nat := if h = true ∨ (n = false ∧ 9 < a.toNat % 16) then 6 else 0
    let high : Nat := if c = true ∨ (n = false ∧ 0x99 < a.toNat) then 0x60 else 0
    (if n then a - BitVec.ofNat 8 (high + low) else a + BitVec.ofNat 8 (high + low), decide (high = 0x60)) := by
  revert a n h c; decide

end Sys2Proof.Machine
end

