-- ==== Sys2Proof/Laws/State.lean ====
section
/-! SUPPORT. What each update of the state leaves: one lemma for each field and each update, so that no later proof
unfolds a record update. -/

namespace Sys2Proof.Machine

/-! ### `State.write` -/

@[simp] theorem State.write_a (s : State) (x : Word) (v : Byte) : (s.write x v).a = s.a := rfl
@[simp] theorem State.write_f (s : State) (x : Word) (v : Byte) : (s.write x v).f = s.f := rfl
@[simp] theorem State.write_b (s : State) (x : Word) (v : Byte) : (s.write x v).b = s.b := rfl
@[simp] theorem State.write_c (s : State) (x : Word) (v : Byte) : (s.write x v).c = s.c := rfl
@[simp] theorem State.write_d (s : State) (x : Word) (v : Byte) : (s.write x v).d = s.d := rfl
@[simp] theorem State.write_e (s : State) (x : Word) (v : Byte) : (s.write x v).e = s.e := rfl
@[simp] theorem State.write_h (s : State) (x : Word) (v : Byte) : (s.write x v).h = s.h := rfl
@[simp] theorem State.write_l (s : State) (x : Word) (v : Byte) : (s.write x v).l = s.l := rfl
@[simp] theorem State.write_sp (s : State) (x : Word) (v : Byte) : (s.write x v).sp = s.sp := rfl
@[simp] theorem State.write_pc (s : State) (x : Word) (v : Byte) : (s.write x v).pc = s.pc := rfl
@[simp] theorem State.write_mode (s : State) (x : Word) (v : Byte) : (s.write x v).mode = s.mode := rfl
@[simp] theorem State.write_ime (s : State) (x : Word) (v : Byte) : (s.write x v).ime = s.ime := rfl
@[simp] theorem State.write_eiInhibit (s : State) (x : Word) (v : Byte) : (s.write x v).eiInhibit = s.eiInhibit := rfl
@[simp] theorem State.write_cycleCount (s : State) (x : Word) (v : Byte) : (s.write x v).cycleCount = s.cycleCount := rfl
@[simp] theorem State.write_irqDispatch (s : State) (x : Word) (v : Byte) : (s.write x v).irqDispatch = s.irqDispatch := rfl
@[simp] theorem State.write_host (s : State) (x : Word) (v : Byte) : (s.write x v).host = s.host := rfl
@[simp] theorem State.write_tick (s : State) (x : Word) (v : Byte) : (s.write x v).tick = s.tick := rfl

/-! ### `State.write16` -/

@[simp] theorem State.write16_a (s : State) (x v : Word) : (s.write16 x v).a = s.a := rfl
@[simp] theorem State.write16_f (s : State) (x v : Word) : (s.write16 x v).f = s.f := rfl
@[simp] theorem State.write16_b (s : State) (x v : Word) : (s.write16 x v).b = s.b := rfl
@[simp] theorem State.write16_c (s : State) (x v : Word) : (s.write16 x v).c = s.c := rfl
@[simp] theorem State.write16_d (s : State) (x v : Word) : (s.write16 x v).d = s.d := rfl
@[simp] theorem State.write16_e (s : State) (x v : Word) : (s.write16 x v).e = s.e := rfl
@[simp] theorem State.write16_h (s : State) (x v : Word) : (s.write16 x v).h = s.h := rfl
@[simp] theorem State.write16_l (s : State) (x v : Word) : (s.write16 x v).l = s.l := rfl
@[simp] theorem State.write16_sp (s : State) (x v : Word) : (s.write16 x v).sp = s.sp := rfl
@[simp] theorem State.write16_pc (s : State) (x v : Word) : (s.write16 x v).pc = s.pc := rfl
@[simp] theorem State.write16_mode (s : State) (x v : Word) : (s.write16 x v).mode = s.mode := rfl
@[simp] theorem State.write16_ime (s : State) (x v : Word) : (s.write16 x v).ime = s.ime := rfl
@[simp] theorem State.write16_eiInhibit (s : State) (x v : Word) : (s.write16 x v).eiInhibit = s.eiInhibit := rfl
@[simp] theorem State.write16_cycleCount (s : State) (x v : Word) : (s.write16 x v).cycleCount = s.cycleCount := rfl
@[simp] theorem State.write16_irqDispatch (s : State) (x v : Word) : (s.write16 x v).irqDispatch = s.irqDispatch := rfl
@[simp] theorem State.write16_host (s : State) (x v : Word) : (s.write16 x v).host = s.host := rfl
@[simp] theorem State.write16_tick (s : State) (x v : Word) : (s.write16 x v).tick = s.tick := rfl

/-! ### `State.setF` -/

@[simp] theorem State.setF_a (s : State) (v : Byte) : (s.setF v).a = s.a := rfl
@[simp] theorem State.setF_b (s : State) (v : Byte) : (s.setF v).b = s.b := rfl
@[simp] theorem State.setF_c (s : State) (v : Byte) : (s.setF v).c = s.c := rfl
@[simp] theorem State.setF_d (s : State) (v : Byte) : (s.setF v).d = s.d := rfl
@[simp] theorem State.setF_e (s : State) (v : Byte) : (s.setF v).e = s.e := rfl
@[simp] theorem State.setF_h (s : State) (v : Byte) : (s.setF v).h = s.h := rfl
@[simp] theorem State.setF_l (s : State) (v : Byte) : (s.setF v).l = s.l := rfl
@[simp] theorem State.setF_sp (s : State) (v : Byte) : (s.setF v).sp = s.sp := rfl
@[simp] theorem State.setF_pc (s : State) (v : Byte) : (s.setF v).pc = s.pc := rfl
@[simp] theorem State.setF_mode (s : State) (v : Byte) : (s.setF v).mode = s.mode := rfl
@[simp] theorem State.setF_ime (s : State) (v : Byte) : (s.setF v).ime = s.ime := rfl
@[simp] theorem State.setF_eiInhibit (s : State) (v : Byte) : (s.setF v).eiInhibit = s.eiInhibit := rfl
@[simp] theorem State.setF_cycleCount (s : State) (v : Byte) : (s.setF v).cycleCount = s.cycleCount := rfl
@[simp] theorem State.setF_bus (s : State) (v : Byte) : (s.setF v).bus = s.bus := rfl
@[simp] theorem State.setF_irqDispatch (s : State) (v : Byte) : (s.setF v).irqDispatch = s.irqDispatch := rfl
@[simp] theorem State.setF_host (s : State) (v : Byte) : (s.setF v).host = s.host := rfl
@[simp] theorem State.setF_tick (s : State) (v : Byte) : (s.setF v).tick = s.tick := rfl

/-! ### `State.flags` -/

@[simp] theorem State.flags_a (s : State) (z n h c : Option Bool) : (s.flags z n h c).a = s.a := rfl
@[simp] theorem State.flags_b (s : State) (z n h c : Option Bool) : (s.flags z n h c).b = s.b := rfl
@[simp] theorem State.flags_c (s : State) (z n h c : Option Bool) : (s.flags z n h c).c = s.c := rfl
@[simp] theorem State.flags_d (s : State) (z n h c : Option Bool) : (s.flags z n h c).d = s.d := rfl
@[simp] theorem State.flags_e (s : State) (z n h c : Option Bool) : (s.flags z n h c).e = s.e := rfl
@[simp] theorem State.flags_h (s : State) (z n h c : Option Bool) : (s.flags z n h c).h = s.h := rfl
@[simp] theorem State.flags_l (s : State) (z n h c : Option Bool) : (s.flags z n h c).l = s.l := rfl
@[simp] theorem State.flags_sp (s : State) (z n h c : Option Bool) : (s.flags z n h c).sp = s.sp := rfl
@[simp] theorem State.flags_pc (s : State) (z n h c : Option Bool) : (s.flags z n h c).pc = s.pc := rfl
@[simp] theorem State.flags_mode (s : State) (z n h c : Option Bool) : (s.flags z n h c).mode = s.mode := rfl
@[simp] theorem State.flags_ime (s : State) (z n h c : Option Bool) : (s.flags z n h c).ime = s.ime := rfl
@[simp] theorem State.flags_eiInhibit (s : State) (z n h c : Option Bool) : (s.flags z n h c).eiInhibit = s.eiInhibit := rfl
@[simp] theorem State.flags_cycleCount (s : State) (z n h c : Option Bool) : (s.flags z n h c).cycleCount = s.cycleCount := rfl
@[simp] theorem State.flags_bus (s : State) (z n h c : Option Bool) : (s.flags z n h c).bus = s.bus := rfl
@[simp] theorem State.flags_irqDispatch (s : State) (z n h c : Option Bool) : (s.flags z n h c).irqDispatch = s.irqDispatch := rfl
@[simp] theorem State.flags_host (s : State) (z n h c : Option Bool) : (s.flags z n h c).host = s.host := rfl
@[simp] theorem State.flags_tick (s : State) (z n h c : Option Bool) : (s.flags z n h c).tick = s.tick := rfl

/-! ### `State.push16` -/

@[simp] theorem State.push16_a (s : State) (v : Word) : (s.push16 v).a = s.a := rfl
@[simp] theorem State.push16_f (s : State) (v : Word) : (s.push16 v).f = s.f := rfl
@[simp] theorem State.push16_b (s : State) (v : Word) : (s.push16 v).b = s.b := rfl
@[simp] theorem State.push16_c (s : State) (v : Word) : (s.push16 v).c = s.c := rfl
@[simp] theorem State.push16_d (s : State) (v : Word) : (s.push16 v).d = s.d := rfl
@[simp] theorem State.push16_e (s : State) (v : Word) : (s.push16 v).e = s.e := rfl
@[simp] theorem State.push16_h (s : State) (v : Word) : (s.push16 v).h = s.h := rfl
@[simp] theorem State.push16_l (s : State) (v : Word) : (s.push16 v).l = s.l := rfl
@[simp] theorem State.push16_pc (s : State) (v : Word) : (s.push16 v).pc = s.pc := rfl
@[simp] theorem State.push16_mode (s : State) (v : Word) : (s.push16 v).mode = s.mode := rfl
@[simp] theorem State.push16_ime (s : State) (v : Word) : (s.push16 v).ime = s.ime := rfl
@[simp] theorem State.push16_eiInhibit (s : State) (v : Word) : (s.push16 v).eiInhibit = s.eiInhibit := rfl
@[simp] theorem State.push16_cycleCount (s : State) (v : Word) : (s.push16 v).cycleCount = s.cycleCount := rfl
@[simp] theorem State.push16_irqDispatch (s : State) (v : Word) : (s.push16 v).irqDispatch = s.irqDispatch := rfl
@[simp] theorem State.push16_host (s : State) (v : Word) : (s.push16 v).host = s.host := rfl
@[simp] theorem State.push16_tick (s : State) (v : Word) : (s.push16 v).tick = s.tick := rfl

/-! ### `State.pop16` -/

@[simp] theorem State.pop16_a (s : State) : (s.pop16.2).a = s.a := rfl
@[simp] theorem State.pop16_f (s : State) : (s.pop16.2).f = s.f := rfl
@[simp] theorem State.pop16_b (s : State) : (s.pop16.2).b = s.b := rfl
@[simp] theorem State.pop16_c (s : State) : (s.pop16.2).c = s.c := rfl
@[simp] theorem State.pop16_d (s : State) : (s.pop16.2).d = s.d := rfl
@[simp] theorem State.pop16_e (s : State) : (s.pop16.2).e = s.e := rfl
@[simp] theorem State.pop16_h (s : State) : (s.pop16.2).h = s.h := rfl
@[simp] theorem State.pop16_l (s : State) : (s.pop16.2).l = s.l := rfl
@[simp] theorem State.pop16_pc (s : State) : (s.pop16.2).pc = s.pc := rfl
@[simp] theorem State.pop16_mode (s : State) : (s.pop16.2).mode = s.mode := rfl
@[simp] theorem State.pop16_ime (s : State) : (s.pop16.2).ime = s.ime := rfl
@[simp] theorem State.pop16_eiInhibit (s : State) : (s.pop16.2).eiInhibit = s.eiInhibit := rfl
@[simp] theorem State.pop16_cycleCount (s : State) : (s.pop16.2).cycleCount = s.cycleCount := rfl
@[simp] theorem State.pop16_bus (s : State) : (s.pop16.2).bus = s.bus := rfl
@[simp] theorem State.pop16_irqDispatch (s : State) : (s.pop16.2).irqDispatch = s.irqDispatch := rfl
@[simp] theorem State.pop16_host (s : State) : (s.pop16.2).host = s.host := rfl
@[simp] theorem State.pop16_tick (s : State) : (s.pop16.2).tick = s.tick := rfl

/-! ### `State.setAcc` -/

@[simp] theorem State.setAcc_b (s : State) (r : Byte) (z n h c : Bool) : (s.setAcc r z n h c).b = s.b := rfl
@[simp] theorem State.setAcc_c (s : State) (r : Byte) (z n h c : Bool) : (s.setAcc r z n h c).c = s.c := rfl
@[simp] theorem State.setAcc_d (s : State) (r : Byte) (z n h c : Bool) : (s.setAcc r z n h c).d = s.d := rfl
@[simp] theorem State.setAcc_e (s : State) (r : Byte) (z n h c : Bool) : (s.setAcc r z n h c).e = s.e := rfl
@[simp] theorem State.setAcc_h (s : State) (r : Byte) (z n h c : Bool) : (s.setAcc r z n h c).h = s.h := rfl
@[simp] theorem State.setAcc_l (s : State) (r : Byte) (z n h c : Bool) : (s.setAcc r z n h c).l = s.l := rfl
@[simp] theorem State.setAcc_sp (s : State) (r : Byte) (z n h c : Bool) : (s.setAcc r z n h c).sp = s.sp := rfl
@[simp] theorem State.setAcc_pc (s : State) (r : Byte) (z n h c : Bool) : (s.setAcc r z n h c).pc = s.pc := rfl
@[simp] theorem State.setAcc_mode (s : State) (r : Byte) (z n h c : Bool) : (s.setAcc r z n h c).mode = s.mode := rfl
@[simp] theorem State.setAcc_ime (s : State) (r : Byte) (z n h c : Bool) : (s.setAcc r z n h c).ime = s.ime := rfl
@[simp] theorem State.setAcc_eiInhibit (s : State) (r : Byte) (z n h c : Bool) : (s.setAcc r z n h c).eiInhibit = s.eiInhibit := rfl
@[simp] theorem State.setAcc_cycleCount (s : State) (r : Byte) (z n h c : Bool) : (s.setAcc r z n h c).cycleCount = s.cycleCount := rfl
@[simp] theorem State.setAcc_bus (s : State) (r : Byte) (z n h c : Bool) : (s.setAcc r z n h c).bus = s.bus := rfl
@[simp] theorem State.setAcc_irqDispatch (s : State) (r : Byte) (z n h c : Bool) : (s.setAcc r z n h c).irqDispatch = s.irqDispatch := rfl
@[simp] theorem State.setAcc_host (s : State) (r : Byte) (z n h c : Bool) : (s.setAcc r z n h c).host = s.host := rfl
@[simp] theorem State.setAcc_tick (s : State) (r : Byte) (z n h c : Bool) : (s.setAcc r z n h c).tick = s.tick := rfl

/-! ### `State.setReg8` -/

@[simp] theorem State.setReg8_f (s : State) (r : Reg8) (v : Byte) : (s.setReg8 r v).f = s.f := by cases r <;> rfl
@[simp] theorem State.setReg8_sp (s : State) (r : Reg8) (v : Byte) : (s.setReg8 r v).sp = s.sp := by cases r <;> rfl
@[simp] theorem State.setReg8_pc (s : State) (r : Reg8) (v : Byte) : (s.setReg8 r v).pc = s.pc := by cases r <;> rfl
@[simp] theorem State.setReg8_mode (s : State) (r : Reg8) (v : Byte) : (s.setReg8 r v).mode = s.mode := by cases r <;> rfl
@[simp] theorem State.setReg8_ime (s : State) (r : Reg8) (v : Byte) : (s.setReg8 r v).ime = s.ime := by cases r <;> rfl
@[simp] theorem State.setReg8_eiInhibit (s : State) (r : Reg8) (v : Byte) : (s.setReg8 r v).eiInhibit = s.eiInhibit := by cases r <;> rfl
@[simp] theorem State.setReg8_cycleCount (s : State) (r : Reg8) (v : Byte) : (s.setReg8 r v).cycleCount = s.cycleCount := by cases r <;> rfl
@[simp] theorem State.setReg8_bus (s : State) (r : Reg8) (v : Byte) : (s.setReg8 r v).bus = s.bus := by cases r <;> rfl
@[simp] theorem State.setReg8_irqDispatch (s : State) (r : Reg8) (v : Byte) : (s.setReg8 r v).irqDispatch = s.irqDispatch := by cases r <;> rfl
@[simp] theorem State.setReg8_host (s : State) (r : Reg8) (v : Byte) : (s.setReg8 r v).host = s.host := by cases r <;> rfl
@[simp] theorem State.setReg8_tick (s : State) (r : Reg8) (v : Byte) : (s.setReg8 r v).tick = s.tick := by cases r <;> rfl

/-! ### `State.setReg16` -/

@[simp] theorem State.setReg16_pc (s : State) (rr : Reg16) (v : Word) : (s.setReg16 rr v).pc = s.pc := by cases rr <;> rfl
@[simp] theorem State.setReg16_mode (s : State) (rr : Reg16) (v : Word) : (s.setReg16 rr v).mode = s.mode := by cases rr <;> rfl
@[simp] theorem State.setReg16_ime (s : State) (rr : Reg16) (v : Word) : (s.setReg16 rr v).ime = s.ime := by cases rr <;> rfl
@[simp] theorem State.setReg16_eiInhibit (s : State) (rr : Reg16) (v : Word) : (s.setReg16 rr v).eiInhibit = s.eiInhibit := by cases rr <;> rfl
@[simp] theorem State.setReg16_cycleCount (s : State) (rr : Reg16) (v : Word) : (s.setReg16 rr v).cycleCount = s.cycleCount := by cases rr <;> rfl
@[simp] theorem State.setReg16_bus (s : State) (rr : Reg16) (v : Word) : (s.setReg16 rr v).bus = s.bus := by cases rr <;> rfl
@[simp] theorem State.setReg16_irqDispatch (s : State) (rr : Reg16) (v : Word) : (s.setReg16 rr v).irqDispatch = s.irqDispatch := by cases rr <;> rfl
@[simp] theorem State.setReg16_host (s : State) (rr : Reg16) (v : Word) : (s.setReg16 rr v).host = s.host := by cases rr <;> rfl
@[simp] theorem State.setReg16_tick (s : State) (rr : Reg16) (v : Word) : (s.setReg16 rr v).tick = s.tick := by cases rr <;> rfl

/-! ### `wr8` -/

@[simp] theorem wr8_f (s : State) (x : Arg) (v : Byte) : (wr8 x v s).f = s.f := by unfold wr8 Resolved.write8; split <;> simp
@[simp] theorem wr8_sp (s : State) (x : Arg) (v : Byte) : (wr8 x v s).sp = s.sp := by unfold wr8 Resolved.write8; split <;> simp
@[simp] theorem wr8_pc (s : State) (x : Arg) (v : Byte) : (wr8 x v s).pc = s.pc := by unfold wr8 Resolved.write8; split <;> simp
@[simp] theorem wr8_mode (s : State) (x : Arg) (v : Byte) : (wr8 x v s).mode = s.mode := by unfold wr8 Resolved.write8; split <;> simp
@[simp] theorem wr8_ime (s : State) (x : Arg) (v : Byte) : (wr8 x v s).ime = s.ime := by unfold wr8 Resolved.write8; split <;> simp
@[simp] theorem wr8_eiInhibit (s : State) (x : Arg) (v : Byte) : (wr8 x v s).eiInhibit = s.eiInhibit := by unfold wr8 Resolved.write8; split <;> simp
@[simp] theorem wr8_cycleCount (s : State) (x : Arg) (v : Byte) : (wr8 x v s).cycleCount = s.cycleCount := by unfold wr8 Resolved.write8; split <;> simp
@[simp] theorem wr8_irqDispatch (s : State) (x : Arg) (v : Byte) : (wr8 x v s).irqDispatch = s.irqDispatch := by unfold wr8 Resolved.write8; split <;> simp
@[simp] theorem wr8_host (s : State) (x : Arg) (v : Byte) : (wr8 x v s).host = s.host := by unfold wr8 Resolved.write8; split <;> simp
@[simp] theorem wr8_tick (s : State) (x : Arg) (v : Byte) : (wr8 x v s).tick = s.tick := by unfold wr8 Resolved.write8; split <;> simp

/-! ### `postAccess` -/

@[simp] theorem postAccess_a (s : State) (x : Arg) : (postAccess x s).a = s.a := by cases x <;> rfl
@[simp] theorem postAccess_f (s : State) (x : Arg) : (postAccess x s).f = s.f := by cases x <;> rfl
@[simp] theorem postAccess_b (s : State) (x : Arg) : (postAccess x s).b = s.b := by cases x <;> rfl
@[simp] theorem postAccess_c (s : State) (x : Arg) : (postAccess x s).c = s.c := by cases x <;> rfl
@[simp] theorem postAccess_d (s : State) (x : Arg) : (postAccess x s).d = s.d := by cases x <;> rfl
@[simp] theorem postAccess_e (s : State) (x : Arg) : (postAccess x s).e = s.e := by cases x <;> rfl
@[simp] theorem postAccess_sp (s : State) (x : Arg) : (postAccess x s).sp = s.sp := by cases x <;> rfl
@[simp] theorem postAccess_pc (s : State) (x : Arg) : (postAccess x s).pc = s.pc := by cases x <;> rfl
@[simp] theorem postAccess_mode (s : State) (x : Arg) : (postAccess x s).mode = s.mode := by cases x <;> rfl
@[simp] theorem postAccess_ime (s : State) (x : Arg) : (postAccess x s).ime = s.ime := by cases x <;> rfl
@[simp] theorem postAccess_eiInhibit (s : State) (x : Arg) : (postAccess x s).eiInhibit = s.eiInhibit := by cases x <;> rfl
@[simp] theorem postAccess_cycleCount (s : State) (x : Arg) : (postAccess x s).cycleCount = s.cycleCount := by cases x <;> rfl
@[simp] theorem postAccess_bus (s : State) (x : Arg) : (postAccess x s).bus = s.bus := by cases x <;> rfl
@[simp] theorem postAccess_irqDispatch (s : State) (x : Arg) : (postAccess x s).irqDispatch = s.irqDispatch := by cases x <;> rfl
@[simp] theorem postAccess_host (s : State) (x : Arg) : (postAccess x s).host = s.host := by cases x <;> rfl
@[simp] theorem postAccess_tick (s : State) (x : Arg) : (postAccess x s).tick = s.tick := by cases x <;> rfl

/-! ### `State.boundary` -/

@[simp] theorem State.boundary_a (s : State) : (s.boundary).a = s.a := rfl
@[simp] theorem State.boundary_f (s : State) : (s.boundary).f = s.f := rfl
@[simp] theorem State.boundary_b (s : State) : (s.boundary).b = s.b := rfl
@[simp] theorem State.boundary_c (s : State) : (s.boundary).c = s.c := rfl
@[simp] theorem State.boundary_d (s : State) : (s.boundary).d = s.d := rfl
@[simp] theorem State.boundary_e (s : State) : (s.boundary).e = s.e := rfl
@[simp] theorem State.boundary_h (s : State) : (s.boundary).h = s.h := rfl
@[simp] theorem State.boundary_l (s : State) : (s.boundary).l = s.l := rfl
@[simp] theorem State.boundary_sp (s : State) : (s.boundary).sp = s.sp := rfl
@[simp] theorem State.boundary_pc (s : State) : (s.boundary).pc = s.pc := rfl
@[simp] theorem State.boundary_mode (s : State) : (s.boundary).mode = s.mode := rfl
@[simp] theorem State.boundary_ime (s : State) : (s.boundary).ime = s.ime := rfl
@[simp] theorem State.boundary_eiInhibit (s : State) : (s.boundary).eiInhibit = s.eiInhibit := rfl
@[simp] theorem State.boundary_cycleCount (s : State) : (s.boundary).cycleCount = s.cycleCount := rfl
@[simp] theorem State.boundary_irqDispatch (s : State) : (s.boundary).irqDispatch = s.irqDispatch := rfl

/-! ### `State.advance` -/

@[simp] theorem State.advance_a (s : State) (i : Instr) : (s.advance i).a = s.a := rfl
@[simp] theorem State.advance_f (s : State) (i : Instr) : (s.advance i).f = s.f := rfl
@[simp] theorem State.advance_b (s : State) (i : Instr) : (s.advance i).b = s.b := rfl
@[simp] theorem State.advance_c (s : State) (i : Instr) : (s.advance i).c = s.c := rfl
@[simp] theorem State.advance_d (s : State) (i : Instr) : (s.advance i).d = s.d := rfl
@[simp] theorem State.advance_e (s : State) (i : Instr) : (s.advance i).e = s.e := rfl
@[simp] theorem State.advance_h (s : State) (i : Instr) : (s.advance i).h = s.h := rfl
@[simp] theorem State.advance_l (s : State) (i : Instr) : (s.advance i).l = s.l := rfl
@[simp] theorem State.advance_sp (s : State) (i : Instr) : (s.advance i).sp = s.sp := rfl
@[simp] theorem State.advance_mode (s : State) (i : Instr) : (s.advance i).mode = s.mode := rfl
@[simp] theorem State.advance_ime (s : State) (i : Instr) : (s.advance i).ime = s.ime := rfl
@[simp] theorem State.advance_eiInhibit (s : State) (i : Instr) : (s.advance i).eiInhibit = s.eiInhibit := rfl
@[simp] theorem State.advance_cycleCount (s : State) (i : Instr) : (s.advance i).cycleCount = s.cycleCount := rfl
@[simp] theorem State.advance_bus (s : State) (i : Instr) : (s.advance i).bus = s.bus := rfl
@[simp] theorem State.advance_irqDispatch (s : State) (i : Instr) : (s.advance i).irqDispatch = s.irqDispatch := rfl
@[simp] theorem State.advance_host (s : State) (i : Instr) : (s.advance i).host = s.host := rfl
@[simp] theorem State.advance_tick (s : State) (i : Instr) : (s.advance i).tick = s.tick := rfl

/-! ### `State.charge` -/

@[simp] theorem State.charge_a (s : State) (n : Nat) : (s.charge n).a = s.a := rfl
@[simp] theorem State.charge_f (s : State) (n : Nat) : (s.charge n).f = s.f := rfl
@[simp] theorem State.charge_b (s : State) (n : Nat) : (s.charge n).b = s.b := rfl
@[simp] theorem State.charge_c (s : State) (n : Nat) : (s.charge n).c = s.c := rfl
@[simp] theorem State.charge_d (s : State) (n : Nat) : (s.charge n).d = s.d := rfl
@[simp] theorem State.charge_e (s : State) (n : Nat) : (s.charge n).e = s.e := rfl
@[simp] theorem State.charge_h (s : State) (n : Nat) : (s.charge n).h = s.h := rfl
@[simp] theorem State.charge_l (s : State) (n : Nat) : (s.charge n).l = s.l := rfl
@[simp] theorem State.charge_sp (s : State) (n : Nat) : (s.charge n).sp = s.sp := rfl
@[simp] theorem State.charge_pc (s : State) (n : Nat) : (s.charge n).pc = s.pc := rfl
@[simp] theorem State.charge_mode (s : State) (n : Nat) : (s.charge n).mode = s.mode := rfl
@[simp] theorem State.charge_ime (s : State) (n : Nat) : (s.charge n).ime = s.ime := rfl
@[simp] theorem State.charge_eiInhibit (s : State) (n : Nat) : (s.charge n).eiInhibit = s.eiInhibit := rfl
@[simp] theorem State.charge_bus (s : State) (n : Nat) : (s.charge n).bus = s.bus := rfl
@[simp] theorem State.charge_irqDispatch (s : State) (n : Nat) : (s.charge n).irqDispatch = s.irqDispatch := rfl
@[simp] theorem State.charge_host (s : State) (n : Nat) : (s.charge n).host = s.host := rfl
@[simp] theorem State.charge_tick (s : State) (n : Nat) : (s.charge n).tick = s.tick := rfl

/-! ### `State.awake` -/

@[simp] theorem State.awake_a (s : State) : (s.awake).a = s.a := by unfold State.awake; split <;> rfl
@[simp] theorem State.awake_f (s : State) : (s.awake).f = s.f := by unfold State.awake; split <;> rfl
@[simp] theorem State.awake_b (s : State) : (s.awake).b = s.b := by unfold State.awake; split <;> rfl
@[simp] theorem State.awake_c (s : State) : (s.awake).c = s.c := by unfold State.awake; split <;> rfl
@[simp] theorem State.awake_d (s : State) : (s.awake).d = s.d := by unfold State.awake; split <;> rfl
@[simp] theorem State.awake_e (s : State) : (s.awake).e = s.e := by unfold State.awake; split <;> rfl
@[simp] theorem State.awake_h (s : State) : (s.awake).h = s.h := by unfold State.awake; split <;> rfl
@[simp] theorem State.awake_l (s : State) : (s.awake).l = s.l := by unfold State.awake; split <;> rfl
@[simp] theorem State.awake_sp (s : State) : (s.awake).sp = s.sp := by unfold State.awake; split <;> rfl
@[simp] theorem State.awake_pc (s : State) : (s.awake).pc = s.pc := by unfold State.awake; split <;> rfl
@[simp] theorem State.awake_ime (s : State) : (s.awake).ime = s.ime := by unfold State.awake; split <;> rfl
@[simp] theorem State.awake_eiInhibit (s : State) : (s.awake).eiInhibit = s.eiInhibit := by unfold State.awake; split <;> rfl
@[simp] theorem State.awake_cycleCount (s : State) : (s.awake).cycleCount = s.cycleCount := by unfold State.awake; split <;> rfl
@[simp] theorem State.awake_bus (s : State) : (s.awake).bus = s.bus := by unfold State.awake; split <;> rfl
@[simp] theorem State.awake_irqDispatch (s : State) : (s.awake).irqDispatch = s.irqDispatch := by unfold State.awake; split <;> rfl
@[simp] theorem State.awake_host (s : State) : (s.awake).host = s.host := by unfold State.awake; split <;> rfl
@[simp] theorem State.awake_tick (s : State) : (s.awake).tick = s.tick := by unfold State.awake; split <;> rfl

/-! ### `State.endBooting` -/

@[simp] theorem State.endBooting_a (s : State) : (s.endBooting).a = s.a := by unfold State.endBooting; split <;> rfl
@[simp] theorem State.endBooting_f (s : State) : (s.endBooting).f = s.f := by unfold State.endBooting; split <;> rfl
@[simp] theorem State.endBooting_b (s : State) : (s.endBooting).b = s.b := by unfold State.endBooting; split <;> rfl
@[simp] theorem State.endBooting_c (s : State) : (s.endBooting).c = s.c := by unfold State.endBooting; split <;> rfl
@[simp] theorem State.endBooting_d (s : State) : (s.endBooting).d = s.d := by unfold State.endBooting; split <;> rfl
@[simp] theorem State.endBooting_e (s : State) : (s.endBooting).e = s.e := by unfold State.endBooting; split <;> rfl
@[simp] theorem State.endBooting_h (s : State) : (s.endBooting).h = s.h := by unfold State.endBooting; split <;> rfl
@[simp] theorem State.endBooting_l (s : State) : (s.endBooting).l = s.l := by unfold State.endBooting; split <;> rfl
@[simp] theorem State.endBooting_sp (s : State) : (s.endBooting).sp = s.sp := by unfold State.endBooting; split <;> rfl
@[simp] theorem State.endBooting_pc (s : State) : (s.endBooting).pc = s.pc := by unfold State.endBooting; split <;> rfl
@[simp] theorem State.endBooting_ime (s : State) : (s.endBooting).ime = s.ime := by unfold State.endBooting; split <;> rfl
@[simp] theorem State.endBooting_eiInhibit (s : State) : (s.endBooting).eiInhibit = s.eiInhibit := by unfold State.endBooting; split <;> rfl
@[simp] theorem State.endBooting_cycleCount (s : State) : (s.endBooting).cycleCount = s.cycleCount := by unfold State.endBooting; split <;> rfl
@[simp] theorem State.endBooting_bus (s : State) : (s.endBooting).bus = s.bus := by unfold State.endBooting; split <;> rfl
@[simp] theorem State.endBooting_irqDispatch (s : State) : (s.endBooting).irqDispatch = s.irqDispatch := by unfold State.endBooting; split <;> rfl
@[simp] theorem State.endBooting_host (s : State) : (s.endBooting).host = s.host := by unfold State.endBooting; split <;> rfl
@[simp] theorem State.endBooting_tick (s : State) : (s.endBooting).tick = s.tick := by unfold State.endBooting; split <;> rfl

/-! ### `State.dispatch` -/

@[simp] theorem State.dispatch_a (s : State) : (s.dispatch).a = s.a := rfl
@[simp] theorem State.dispatch_f (s : State) : (s.dispatch).f = s.f := rfl
@[simp] theorem State.dispatch_b (s : State) : (s.dispatch).b = s.b := rfl
@[simp] theorem State.dispatch_c (s : State) : (s.dispatch).c = s.c := rfl
@[simp] theorem State.dispatch_d (s : State) : (s.dispatch).d = s.d := rfl
@[simp] theorem State.dispatch_e (s : State) : (s.dispatch).e = s.e := rfl
@[simp] theorem State.dispatch_h (s : State) : (s.dispatch).h = s.h := rfl
@[simp] theorem State.dispatch_l (s : State) : (s.dispatch).l = s.l := rfl
@[simp] theorem State.dispatch_mode (s : State) : (s.dispatch).mode = s.mode := rfl
@[simp] theorem State.dispatch_eiInhibit (s : State) : (s.dispatch).eiInhibit = s.eiInhibit := rfl
@[simp] theorem State.dispatch_cycleCount (s : State) : (s.dispatch).cycleCount = s.cycleCount := rfl
@[simp] theorem State.dispatch_irqDispatch (s : State) : (s.dispatch).irqDispatch = s.irqDispatch := rfl
@[simp] theorem State.dispatch_host (s : State) : (s.dispatch).host = s.host := rfl
@[simp] theorem State.dispatch_tick (s : State) : (s.dispatch).tick = s.tick := rfl

/-! ### `State.returnFromInterrupt` -/

@[simp] theorem State.returnFromInterrupt_a (s : State) : (s.returnFromInterrupt).a = s.a := rfl
@[simp] theorem State.returnFromInterrupt_f (s : State) : (s.returnFromInterrupt).f = s.f := rfl
@[simp] theorem State.returnFromInterrupt_b (s : State) : (s.returnFromInterrupt).b = s.b := rfl
@[simp] theorem State.returnFromInterrupt_c (s : State) : (s.returnFromInterrupt).c = s.c := rfl
@[simp] theorem State.returnFromInterrupt_d (s : State) : (s.returnFromInterrupt).d = s.d := rfl
@[simp] theorem State.returnFromInterrupt_e (s : State) : (s.returnFromInterrupt).e = s.e := rfl
@[simp] theorem State.returnFromInterrupt_h (s : State) : (s.returnFromInterrupt).h = s.h := rfl
@[simp] theorem State.returnFromInterrupt_l (s : State) : (s.returnFromInterrupt).l = s.l := rfl
@[simp] theorem State.returnFromInterrupt_mode (s : State) : (s.returnFromInterrupt).mode = s.mode := rfl
@[simp] theorem State.returnFromInterrupt_eiInhibit (s : State) : (s.returnFromInterrupt).eiInhibit = s.eiInhibit := rfl
@[simp] theorem State.returnFromInterrupt_cycleCount (s : State) : (s.returnFromInterrupt).cycleCount = s.cycleCount := rfl
@[simp] theorem State.returnFromInterrupt_bus (s : State) : (s.returnFromInterrupt).bus = s.bus := rfl
@[simp] theorem State.returnFromInterrupt_irqDispatch (s : State) : (s.returnFromInterrupt).irqDispatch = s.irqDispatch := rfl
@[simp] theorem State.returnFromInterrupt_host (s : State) : (s.returnFromInterrupt).host = s.host := rfl
@[simp] theorem State.returnFromInterrupt_tick (s : State) : (s.returnFromInterrupt).tick = s.tick := rfl

/-! ### The registers written -/

@[simp] theorem State.reg8_setReg8_same (s : State) (r : Reg8) (v : Byte) : (s.setReg8 r v).reg8 r = v := by
  cases r <;> rfl

theorem State.reg8_setReg8_other (s : State) {r q : Reg8} (v : Byte) (h : q ≠ r) :
    (s.setReg8 r v).reg8 q = s.reg8 q := by
  cases r <;> cases q <;> first | rfl | exact absurd rfl h

@[simp] theorem State.reg8_write (s : State) (x : Word) (v : Byte) (r : Reg8) : (s.write x v).reg8 r = s.reg8 r := by
  cases r <;> rfl

@[simp] theorem State.reg8_flags (s : State) (z n h c : Option Bool) (r : Reg8) :
    (s.flags z n h c).reg8 r = s.reg8 r := by
  cases r <;> rfl

@[simp] theorem State.reg8_push16 (s : State) (v : Word) (r : Reg8) : (s.push16 v).reg8 r = s.reg8 r := by
  cases r <;> rfl

@[simp] theorem State.reg8_pop16 (s : State) (r : Reg8) : s.pop16.2.reg8 r = s.reg8 r := by
  cases r <;> rfl

theorem State.reg8_setReg16_other (s : State) {rr : Reg16} (v : Word) {r : Reg8} (h : r ∉ halves rr) :
    (s.setReg16 rr v).reg8 r = s.reg8 r := by
  cases rr <;> cases r <;> first | rfl | simp [halves] at h

/-! ### Words and bytes -/

theorem cat_toNat (h l : Byte) : (cat h l).toNat = 256 * h.toNat + l.toNat := by
  have := l.isLt
  rw [cat, BitVec.toNat_append, ← Nat.shiftLeft_add_eq_or_of_lt this, Nat.shiftLeft_eq]; omega

theorem hi_toNat (v : Word) : (hi v).toNat = v.toNat / 256 := by
  have := v.isLt
  simp [hi, BitVec.extractLsb'_toNat, Nat.shiftRight_eq_div_pow]; omega

theorem lo_toNat (v : Word) : (lo v).toNat = v.toNat % 256 := by
  simp [lo, BitVec.extractLsb'_toNat]

@[simp] theorem hi_cat (h l : Byte) : hi (cat h l) = h := by
  have := l.isLt
  apply BitVec.eq_of_toNat_eq; rw [hi_toNat, cat_toNat]; omega

@[simp] theorem lo_cat (h l : Byte) : lo (cat h l) = l := by
  have := l.isLt
  apply BitVec.eq_of_toNat_eq; rw [lo_toNat, cat_toNat]; omega

@[simp] theorem cat_hi_lo (v : Word) : cat (hi v) (lo v) = v := by
  apply BitVec.eq_of_toNat_eq; rw [cat_toNat, hi_toNat, lo_toNat]; omega

/-! ### The flags -/

@[simp] theorem flagByte_lowNibble (z n h c : Bool) : flagByte z n h c &&& 0x0F = 0 := by
  revert z n h c; decide

@[simp] theorem flagByte_z (z n h c : Bool) : (flagByte z n h c).getLsbD 7 = z := by
  revert z n h c; decide

@[simp] theorem flagByte_n (z n h c : Bool) : (flagByte z n h c).getLsbD 6 = n := by
  revert z n h c; decide

@[simp] theorem flagByte_h (z n h c : Bool) : (flagByte z n h c).getLsbD 5 = h := by
  revert z n h c; decide

@[simp] theorem flagByte_c (z n h c : Bool) : (flagByte z n h c).getLsbD 4 = c := by
  revert z n h c; decide

theorem lowNibble_masked (v : Byte) : v &&& 0xF0 &&& 0x0F = 0 := by
  revert v; decide

theorem State.flags_f (s : State) (z n h c : Option Bool) :
    (s.flags z n h c).f = flagByte (z.getD s.zf) (n.getD s.nf) (h.getD s.hf) (c.getD s.cf) := rfl

end Sys2Proof.Machine
end

