-- ==== Sys2Proof/Laws/Ops.lean ====
section
/-! SUPPORT. What every operation of an execute phase keeps, said once for each shared operation: the fixed base of the
bus, the low nibble of F, and the state no instruction writes. -/

namespace Sys2Proof.Machine

/-- What no instruction breaks. -/
structure Keeps (s t : State) : Prop where
  bus : s.bus.Extends t.bus
  lowNibble : s.f &&& 0x0F = 0 → t.f &&& 0x0F = 0
  cycleCount : t.cycleCount = s.cycleCount
  irqDispatch : t.irqDispatch = s.irqDispatch
  host : t.host = s.host
  tick : t.tick = s.tick

namespace Keeps

theorem refl (s : State) : Keeps s s := ⟨.refl _, id, rfl, rfl, rfl, rfl⟩

theorem trans {s t u : State} (h : Keeps s t) (g : Keeps t u) : Keeps s u :=
  ⟨h.bus.trans g.bus, g.lowNibble ∘ h.lowNibble, g.cycleCount.trans h.cycleCount,
    g.irqDispatch.trans h.irqDispatch, g.host.trans h.host, g.tick.trans h.tick⟩

/-- An update of the other fields keeps it. -/
theorem of_eq {s t : State} (hb : t.bus = s.bus) (hf : t.f = s.f) (hc : t.cycleCount = s.cycleCount)
    (hi : t.irqDispatch = s.irqDispatch) (hh : t.host = s.host) (ht : t.tick = s.tick) : Keeps s t :=
  ⟨hb ▸ .refl _, fun h => hf ▸ h, hc, hi, hh, ht⟩

theorem write (s : State) (x : Word) (v : Byte) : Keeps s (s.write x v) :=
  ⟨Bus.extends_write _ _ _, id, rfl, rfl, rfl, rfl⟩

theorem write16 (s : State) (x v : Word) : Keeps s (s.write16 x v) :=
  (write s x _).trans (write _ _ _)

theorem setReg8 (s : State) (r : Reg8) (v : Byte) : Keeps s (s.setReg8 r v) := by
  cases r <;> exact of_eq rfl rfl rfl rfl rfl rfl

theorem setReg16 (s : State) (rr : Reg16) (v : Word) : Keeps s (s.setReg16 rr v) := by
  cases rr <;> first
    | exact of_eq rfl rfl rfl rfl rfl rfl
    | exact ⟨.refl _, fun _ => lowNibble_masked _, rfl, rfl, rfl, rfl⟩

theorem flags (s : State) (z n h c : Option Bool) : Keeps s (s.flags z n h c) :=
  ⟨.refl _, fun _ => flagByte_lowNibble _ _ _ _, rfl, rfl, rfl, rfl⟩

theorem setAcc (s : State) (r : Byte) (z n h c : Bool) : Keeps s (s.setAcc r z n h c) :=
  (of_eq rfl rfl rfl rfl rfl rfl : Keeps s { s with a := r }).trans (flags _ _ _ _ _)

theorem push16 (s : State) (v : Word) : Keeps s (s.push16 v) :=
  ⟨(Bus.extends_write _ _ _).trans (Bus.extends_write _ _ _), id, rfl, rfl, rfl, rfl⟩

theorem pop16 (s : State) : Keeps s s.pop16.2 := of_eq rfl rfl rfl rfl rfl rfl

theorem setPc (s : State) (v : Word) : Keeps s { s with pc := v } := of_eq rfl rfl rfl rfl rfl rfl

theorem wr8 (s : State) (x : Arg) (v : Byte) : Keeps s (wr8 x v s) := by
  unfold Machine.wr8 Resolved.write8
  split
  · exact setReg8 _ _ _
  · exact write _ _ _
  all_goals exact refl s

theorem postAccess (s : State) (x : Arg) : Keeps s (postAccess x s) := by
  cases x <;> first
    | exact refl s
    | exact setReg16 s .hl _

theorem addSp (x : Arg) (s : State) : Keeps s (addSp x s) :=
  (of_eq rfl rfl rfl rfl rfl rfl : Keeps s { s with sp := (addsp s.sp (rd8 x s)).r }).trans (flags _ _ _ _ _)

theorem daa (s : State) : Keeps s (daa s) :=
  (of_eq rfl rfl rfl rfl rfl rfl : Keeps s { s with a := (daaAdjust s.a s.nf s.hf s.cf).1 }).trans (flags _ _ _ _ _)

theorem cpl (s : State) : Keeps s (cpl s) :=
  (of_eq rfl rfl rfl rfl rfl rfl : Keeps s { s with a := s.a ^^^ 0xFF }).trans (flags _ _ _ _ _)

theorem ld8 (x y : Arg) (s : State) : Keeps s (ld8 x y s) :=
  ((wr8 s x _).trans (postAccess _ _)).trans (postAccess _ _)

theorem push (rr : Reg16) (s : State) : Keeps s (push rr s) := push16 _ _

theorem pop (rr : Reg16) (s : State) : Keeps s (pop rr s) := (pop16 s).trans (setReg16 _ _ _)

theorem rotate (g : Byte → Byte × Bool) (t : Arg) (s : State) : Keeps s (rotate g t s) :=
  (wr8 s t _).trans (flags _ _ _ _ _)

theorem jr (x y : Arg) (s : State) : Keeps s (jr x y s) := by
  unfold Machine.jr
  split
  · exact setPc s _
  · exact refl s

theorem jp (x y : Arg) (s : State) : Keeps s (jp x y s) := by
  unfold Machine.jp
  split
  · exact setPc s _
  · exact refl s

theorem call (x y : Arg) (s : State) : Keeps s (call x y s) := by
  unfold Machine.call
  split
  · exact (push16 s _).trans (setPc _ _)
  · exact refl s

theorem ret (x : Arg) (s : State) : Keeps s (ret x s) := by
  unfold Machine.ret
  split
  · exact (pop16 s).trans (setPc _ _)
  · exact refl s

theorem rst (x : Arg) (s : State) : Keeps s (rst x s) := (push16 s _).trans (setPc _ _)

theorem returnFromInterrupt (s : State) : Keeps s s.returnFromInterrupt :=
  (pop16 s).trans (of_eq rfl rfl rfl rfl rfl rfl)

/-- The interrupt dispatch. -/
theorem dispatch (s : State) : Keeps s s.dispatch :=
  (((of_eq rfl rfl rfl rfl rfl rfl : Keeps s { s with ime := false }).trans (write _ _ _)).trans
    (push16 _ _)).trans (setPc _ _)

end Keeps

/-- The execute phase of every decoded record keeps it. -/
theorem executeRecord_keeps (r : Record) (s : State) : Keeps s (executeRecord r s) := by
  unfold executeRecord
  cases r.kind <;> dsimp only
  case nop | prefixCb | illegal => exact .refl s
  case ld =>
    split
    · exact (Keeps.setReg16 s _ _).trans (.flags _ _ _ _ _)
    · exact .setReg16 s _ _
    · exact .write16 s _ _
    · exact .ld8 _ _ s
  case inc | dec =>
    split
    · exact .setReg16 s _ _
    · exact (Keeps.wr8 s _ _).trans (.flags _ _ _ _ _)
  case add =>
    split
    · exact (Keeps.setReg16 s _ _).trans (.flags _ _ _ _ _)
    · exact .addSp _ s
    · exact .setAcc s _ _ _ _ _
  case adc | sub | sbc | and | xor | or | rlca | rrca | rla | rra => exact .setAcc s _ _ _ _ _
  case cp | scf | ccf | bit => exact .flags s _ _ _ _
  case daa => exact .daa s
  case cpl => exact .cpl s
  case jr => exact .jr _ _ s
  case jp =>
    split
    · exact .setPc s _
    · exact .jp _ _ s
  case call => exact .call _ _ s
  case ret => exact .ret _ s
  case reti => exact .returnFromInterrupt s
  case rst => exact .rst _ s
  case push =>
    split
    · exact .push _ s
    · exact .refl s
  case pop =>
    split
    · exact .pop _ s
    · exact .refl s
  case halt | stop | di | ei => exact .of_eq rfl rfl rfl rfl rfl rfl
  case rlc | rrc | rl | rr | sla | sra | swap | srl => exact .rotate _ _ s
  case res | set => exact .wr8 s _ _

/-- The step boundary: only `io`, the schedule and its counter change. -/
theorem boundary_spec (s : State) :
    s.boundary = { s with bus := s.boundary.bus, host := s.host.tail, tick := s.tick + 1 } ∧
    s.bus.Extends s.boundary.bus ∧ s.boundary.bus.bootRomActive = s.bus.bootRomActive :=
  ⟨rfl, Bus.extends_hostChanges _ _, rfl⟩

/-- `Push16` writes the high byte at SP - 1, then the low byte at SP - 2 (spec/20_memory.md R46). -/
theorem push16_eq (s : State) (v : Word) : s.push16 v = pushed s v := by
  have : s.sp - 1 - 1 = s.sp - 2 := by bv_omega
  simp only [State.push16, pushed, State.write, this]

/-- `Pop16` reads the low byte at SP and the high byte at SP + 1 (spec/20_memory.md R47). -/
theorem pop16_eq (s : State) :
    s.pop16 = (cat (s.read (s.sp + 1)) (s.read s.sp), { s with sp := s.sp + 2 }) := by
  have : s.sp + 1 + 1 = s.sp + 2 := by bv_omega
  simp only [State.pop16, State.read, this]

/-- `dispatch()` of source `n`, as one update (spec/60_exceptions.md R183). -/
theorem dispatch_eq (s : State) (n : Fin 5) (h : lowestSource s.pending = n) :
    s.dispatch =
      { pushed { s.write 0xFF0F (s.read 0xFF0F &&& ~~~(op (2 ^ (n : Nat)))) with ime := false } s.pc with
        pc := BitVec.ofNat 16 (0x40 + 8 * n) } := by
  have hm : (1 : Byte) <<< (n : Nat) = op (2 ^ (n : Nat)) := by clear h; revert n; decide
  have hv : Config.vectorBase + BitVec.ofNat 16 (8 * n) = BitVec.ofNat 16 (0x40 + 8 * n) := by clear h hm; revert n; decide
  unfold State.dispatch
  simp only [h, push16_eq, hm, hv]
  rfl

end Sys2Proof.Machine
end

