-- ==== Sys2Proof/Laws/Step.lean ====
section
/-! SUPPORT. What the decoder gives, that the meaning of an instruction is the execute phase of its record, and the
three things a step can do, each said once. -/

namespace Sys2Proof.Machine

/-! ### The decoder -/

theorem cbEntry_wellFormed (b1 : Byte) : (cbEntry b1).wellFormed = true := by
  revert b1; decide +kernel

theorem baseEntry_wellFormed {b0 : Byte} (b1 b2 : Byte) (h : b0 ≠ 0xCB) : (baseEntry b0 b1 b2).wellFormed = true := by
  have : ∀ n : Fin 256, ∀ b1 b2 : Byte, BitVec.ofFin n ≠ (0xCB : Byte) →
      (baseEntry (BitVec.ofFin n) b1 b2).wellFormed = true := by
    intro n b1 b2 h
    fin_cases n <;> first | rfl | exact absurd rfl h
  exact this b0.toFin b1 b2 h

/-- The decoder never gives the prefix entry (spec/46_system.md R173). -/
theorem decode3_wellFormed (b0 b1 b2 : Byte) : (decode3 b0 b1 b2).wellFormed = true := by
  unfold decode3
  split_ifs with h
  · exact cbEntry_wellFormed b1
  · exact baseEntry_wellFormed b1 b2 h

theorem fetch_wellFormed (s : State) : s.fetch.wellFormed = true := decode3_wellFormed _ _ _

/-! ### The execute phase -/

/-- `exec` is the execute phase of the decoded record (spec/40_engine.md R84). -/
theorem exec_eq_executeRecord {i : Instr} (h : i.wellFormed = true) (s : State) :
    exec i s = .next (executeRecord i.record s) := by
  cases i <;> first | rfl | exact absurd h Bool.false_ne_true

/-! ### The parts of a step -/

theorem State.endBooting_mode (s : State) :
    s.endBooting.mode = if s.mode = .booting ∧ s.bus.bootRomActive = false then .running else s.mode := by
  unfold State.endBooting; split <;> rfl

theorem State.awake_mode (s : State) : s.awake.mode = if s.mode = .halted then s.awakeMode else s.mode := by
  unfold State.awake; split <;> rfl
theorem State.awake_of_not_halted {s : State} (h : s.mode ≠ .halted) : s.awake = s := by
  unfold State.awake; rw [if_neg h]

@[simp] theorem State.dispatchDue_awake (s : State) : s.awake.dispatchDue = s.dispatchDue := by
  simp [State.dispatchDue, State.pending, State.read]

@[simp] theorem State.charge_cycleCount (s : State) (n : Nat) :
    (s.charge n).cycleCount = s.cycleCount + BitVec.ofNat 64 n := rfl

@[simp] theorem State.clearInhibit_eiInhibit (s : State) : s.clearInhibit.eiInhibit = false := rfl
@[simp] theorem State.clearInhibit_bus (s : State) : s.clearInhibit.bus = s.bus := rfl
@[simp] theorem State.clearInhibit_f (s : State) : s.clearInhibit.f = s.f := rfl
@[simp] theorem State.clearInhibit_mode (s : State) : s.clearInhibit.mode = s.mode := rfl
@[simp] theorem State.clearInhibit_pc (s : State) : s.clearInhibit.pc = s.pc := rfl
@[simp] theorem State.clearInhibit_ime (s : State) : s.clearInhibit.ime = s.ime := rfl
@[simp] theorem State.clearInhibit_cycleCount (s : State) : s.clearInhibit.cycleCount = s.cycleCount := rfl
@[simp] theorem State.clearInhibit_irqDispatch (s : State) : s.clearInhibit.irqDispatch = s.irqDispatch := rfl

theorem Keeps.clearInhibit (s : State) : Keeps s s.clearInhibit := of_eq rfl rfl rfl rfl rfl rfl

theorem Keeps.advance (s : State) (i : Instr) : Keeps s (s.advance i) := of_eq rfl rfl rfl rfl rfl rfl

theorem Keeps.awake (s : State) : Keeps s s.awake := by
  unfold State.awake
  split
  · exact of_eq rfl rfl rfl rfl rfl rfl
  · exact .refl s

/-- Between 1 and 6 cycles (spec/40_engine.md R87). -/
theorem cost_range {i : Instr} (h : i.wellFormed = true) (s : State) : 1 ≤ cost i s ∧ cost i s ≤ 6 := by
  have : 1 ≤ i.record.cycles ∧ i.record.cycles + i.record.takenExtra ≤ 6 := by
    cases i <;> first
      | exact ⟨Nat.le_of_ble_eq_true rfl, Nat.le_of_ble_eq_true rfl⟩
      | exact absurd h Bool.false_ne_true
  unfold cost
  split <;> omega

/-! ### What a step can do -/

/-- Running one instruction always answers: the state `t` that the execute phase leaves, with the end of Booting and the
cost added. -/
theorem runInstr_spec (s : State) :
    ∃ t, t = executeRecord s.fetch.record (s.advance s.fetch) ∧ Keeps s t ∧
      exec s.fetch (s.advance s.fetch) = .next t ∧
      runInstr s = .next (t.endBooting.charge (cost s.fetch s), cost s.fetch s) := by
  have h := exec_eq_executeRecord (fetch_wellFormed s) (s.advance s.fetch)
  refine ⟨_, rfl, (Keeps.advance s _).trans (executeRecord_keeps _ _), h, ?_⟩
  unfold runInstr
  simp only [h]

theorem step_of_runStep {s t : State} {n : Nat} (h : runStep s = .next (t, n)) : step s = .next t := by
  unfold step; rw [h]

/-- The three things a step can do: idle, dispatch an interrupt, or run one instruction. -/
theorem runStep_cases (s : State) :
    (s.mode = .halted ∧ s.boundary.wakes s.hostInput.irqPending = false ∧
      runStep s = .next (s.boundary.charge 1, 1)) ∨
    (¬(s.mode = .halted ∧ s.boundary.wakes s.hostInput.irqPending = false) ∧ s.boundary.dispatchDue = true ∧
      runStep s = .next (s.boundary.awake.clearInhibit.dispatch.charge 5, 5)) ∨
    (¬(s.mode = .halted ∧ s.boundary.wakes s.hostInput.irqPending = false) ∧ s.boundary.dispatchDue = false ∧
      runStep s = runInstr s.boundary.awake.clearInhibit) := by
  unfold runStep
  by_cases h : s.boundary.mode = .halted ∧ s.boundary.wakes s.hostInput.irqPending = false
  · exact .inl ⟨h.1, h.2, by simp only [if_pos h]; rfl⟩
  · cases g : s.boundary.dispatchDue
    · exact .inr (.inr ⟨h, rfl, by simp only [if_neg h, State.dispatchDue_awake, g]; rfl⟩)
    · exact .inr (.inl ⟨h, rfl, by simp only [if_neg h, State.dispatchDue_awake, g]; rfl⟩)

end Sys2Proof.Machine
end

