-- ==== Sys2Proof/Machine/Format.lean ====
section
/-! DEFINITION. `format(Instruction) -> text`, non-normative: derived from the decoded record, and read by no other
part of the model (spec/30_encoding.md R74; log entry 13). -/

namespace Sys2Proof.Machine

/-- One lower-case hexadecimal digit. -/
def hexDigit (n : Nat) : String := ((("0123456789abcdef".toList).getD n '?').toString)

/-- `0x%02x`. -/
def hex2 (v : Byte) : String := "0x" ++ hexDigit (v.toNat / 16) ++ hexDigit (v.toNat % 16)

/-- `0x%04x`. -/
def hex4 (w : Word) : String :=
  "0x" ++ hexDigit (w.toNat / 0x1000) ++ hexDigit (w.toNat / 0x100 % 16) ++ hexDigit (w.toNat / 0x10 % 16) ++
    hexDigit (w.toNat % 16)

/-- A number below 1000 in decimal, without leading zeros. -/
def decimal (n : Nat) : String :=
  (if 100 ≤ n then hexDigit (n / 100) else "") ++ (if 10 ≤ n then hexDigit (n / 10 % 10) else "") ++ hexDigit (n % 10)

/-- A byte as a signed decimal. -/
def signedDecimal (v : Byte) : String :=
  if v.toNat < 128 then decimal v.toNat else "-" ++ decimal (256 - v.toNat)

def formatReg8 : Reg8 → String
  | .a => "a"
  | .b => "b"
  | .c => "c"
  | .d => "d"
  | .e => "e"
  | .h => "h"
  | .l => "l"

def formatReg16 : Reg16 → String
  | .af => "af"
  | .bc => "bc"
  | .de => "de"
  | .hl => "hl"
  | .sp => "sp"

/-- The lower-case kind (R74). -/
def formatKind : Kind → String
  | .nop => "nop"
  | .ld => "ld"
  | .inc => "inc"
  | .dec => "dec"
  | .rlca => "rlca"
  | .rrca => "rrca"
  | .rla => "rla"
  | .rra => "rra"
  | .daa => "daa"
  | .cpl => "cpl"
  | .scf => "scf"
  | .ccf => "ccf"
  | .add => "add"
  | .adc => "adc"
  | .sub => "sub"
  | .sbc => "sbc"
  | .and => "and"
  | .xor => "xor"
  | .or => "or"
  | .cp => "cp"
  | .jr => "jr"
  | .jp => "jp"
  | .call => "call"
  | .ret => "ret"
  | .reti => "reti"
  | .rst => "rst"
  | .push => "push"
  | .pop => "pop"
  | .halt => "halt"
  | .stop => "stop"
  | .di => "di"
  | .ei => "ei"
  | .rlc => "rlc"
  | .rrc => "rrc"
  | .rl => "rl"
  | .rr => "rr"
  | .sla => "sla"
  | .sra => "sra"
  | .swap => "swap"
  | .srl => "srl"
  | .bit => "bit"
  | .res => "res"
  | .set => "set"
  | .prefixCb => "prefix"
  | .illegal => "illegal"

/-- An operand (R74); `none` where nothing is printed. -/
def formatArg (k : Kind) : Arg → Option String
  | .r8 r => some (formatReg8 r)
  | .r16 rr => some (formatReg16 rr)
  | .ptr rr => some ("(" ++ formatReg16 rr ++ ")")
  | .ptrInc => some "(hl+)"
  | .ptrDec => some "(hl-)"
  | .ioImm8 n => some ("(" ++ hex2 n ++ ")")
  | .ioC => some "(c)"
  | .imm8 n => some (hex2 n)
  | .imm16 w => some (hex4 w)
  | .simm8 n => some (signedDecimal n)
  | .ptrImm16 w => some ("(" ++ hex4 w ++ ")")
  | .spOffset n => some ("sp+" ++ signedDecimal n)
  | .cond .nzero => some "nz"
  | .cond .zero => some "z"
  | .cond .ncarry => some "nc"
  | .cond .carry => some "c"
  | .cond .none => none
  | .lit n => some (if k = .rst then hex2 n else decimal n.toNat)
  | .none => none

/-- The text of an instruction: its kind, then the operands that print. A bit operation prints its bit number first,
although the record holds it on the right (R74). Where the left-hand argument does not print and the right-hand one does
(JR e8, JP a16 and CALL a16, whose condition is `none`), no comma stands between the kind and the operand: the words of R74
leave that open, and the form is that of R73 (DEDUCED, log entry 13). -/
def format (i : Instr) : String :=
  let r := i.record
  let l := formatArg r.kind r.lhs
  let q := formatArg r.kind r.rhs
  let operands := match r.kind with
    | .bit | .res | .set => [q, l]
    | _ => [l, q]
  let texts := operands.filterMap id
  formatKind r.kind ++ (if texts.isEmpty then "" else " ") ++ String.intercalate ", " texts

end Sys2Proof.Machine
end

