-- ==== Sys2Proof/Tests/Slice0.lean ====
section
/-! SUPPORT. Tests. The words of the decoding tests are the bit patterns of spec/30_encoding.md R57 to R69 and of the
`encoding` column of spec/opcode_table.json; the expected results of the step tests are the vectors of
spec/95_test_vectors.md, cited by section. The witnesses meet the hypotheses of the obligations. -/

namespace Sys2Proof.Tests

open Sys2Proof.Machine

/-! ### Well-formedness: one ill-formed term for each check, refused -/

theorem test_wellFormed_refuses_the_prefix_entry : (Instr.prefix_cb 0x37).wellFormed = false := by decide
theorem test_wellFormed_accepts_an_extended_entry : Instr.swap_a.wellFormed = true := by decide
/-- Two arguments that both carry immediate bytes (R66). -/
theorem test_onePayload_refuses : (Record.mk (.base 0x36) .ld (.ioImm8 0x50) (.imm8 0x01) 3 3 0).wellFormed = false := by
  decide
/-- LD BC,d16 with a length of 2 (R66). -/
theorem test_baseLength_refuses : (Record.mk (.base 0x01) .ld (.r16 .bc) (.imm16 0xCAFE) 2 3 0).wellFormed = false := by
  decide
/-- An extended entry of length 1, one whose operand is DE, and one with an immediate on the right (R66). -/
theorem test_extendedShape_refuses_a_length : (Record.mk (.cb 0x7C) .bit (.r8 .h) (.lit 7) 1 2 0).wellFormed = false := by
  decide
theorem test_extendedShape_refuses_a_left_operand :
    (Record.mk (.cb 0x7C) .bit (.r16 .de) (.lit 7) 2 2 0).wellFormed = false := by decide
theorem test_extendedShape_refuses_a_right_operand :
    (Record.mk (.cb 0x7C) .bit (.r8 .h) (.imm8 7) 2 2 0).wellFormed = false := by decide
theorem test_record_wellFormed_accepts : (Instr.bit_7_h.record.wellFormed && (Instr.ld_bc_d16 0xCAFE).record.wellFormed) = true := by
  decide

/-! ### Decoding: every entry of both tables, its word written out bit by bit -/

/-- Each listed word decodes to the instruction beside it, and nothing is left. -/
def decodesTo (xs : List (List Byte × Instr)) : Bool := xs.all fun x => decide (decode x.1 = .ok (x.2, []))

theorem test_decode_base_00 :
    decodesTo [
      ([0b00000000], .nop), ([0b00000001, 0x34, 0x12], .ld_bc_d16 0x1234), ([0b00000010], .ld_mbc_a), ([0b00000011], .inc_bc),
      ([0b00000100], .inc_b), ([0b00000101], .dec_b), ([0b00000110, 0xA5], .ld_b_d8 0xA5), ([0b00000111], .rlca),
      ([0b00001000, 0x34, 0x12], .ld_ma16_sp 0x1234), ([0b00001001], .add_hl_bc), ([0b00001010], .ld_a_mbc), ([0b00001011], .dec_bc),
      ([0b00001100], .inc_c), ([0b00001101], .dec_c), ([0b00001110, 0xA5], .ld_c_d8 0xA5), ([0b00001111], .rrca)] = true := by
  decide
theorem test_decode_base_10 :
    decodesTo [
      ([0b00010000, 0xA5], .stop_d8 0xA5), ([0b00010001, 0x34, 0x12], .ld_de_d16 0x1234), ([0b00010010], .ld_mde_a), ([0b00010011], .inc_de),
      ([0b00010100], .inc_d), ([0b00010101], .dec_d), ([0b00010110, 0xA5], .ld_d_d8 0xA5), ([0b00010111], .rla),
      ([0b00011000, 0xA5], .jr_e8 0xA5), ([0b00011001], .add_hl_de), ([0b00011010], .ld_a_mde), ([0b00011011], .dec_de),
      ([0b00011100], .inc_e), ([0b00011101], .dec_e), ([0b00011110, 0xA5], .ld_e_d8 0xA5), ([0b00011111], .rra)] = true := by
  decide
theorem test_decode_base_20 :
    decodesTo [
      ([0b00100000, 0xA5], .jr_nz_e8 0xA5), ([0b00100001, 0x34, 0x12], .ld_hl_d16 0x1234), ([0b00100010], .ld_mhli_a), ([0b00100011], .inc_hl),
      ([0b00100100], .inc_h), ([0b00100101], .dec_h), ([0b00100110, 0xA5], .ld_h_d8 0xA5), ([0b00100111], .daa),
      ([0b00101000, 0xA5], .jr_z_e8 0xA5), ([0b00101001], .add_hl_hl), ([0b00101010], .ld_a_mhli), ([0b00101011], .dec_hl),
      ([0b00101100], .inc_l), ([0b00101101], .dec_l), ([0b00101110, 0xA5], .ld_l_d8 0xA5), ([0b00101111], .cpl)] = true := by
  decide
theorem test_decode_base_30 :
    decodesTo [
      ([0b00110000, 0xA5], .jr_nc_e8 0xA5), ([0b00110001, 0x34, 0x12], .ld_sp_d16 0x1234), ([0b00110010], .ld_mhld_a), ([0b00110011], .inc_sp),
      ([0b00110100], .inc_mhl), ([0b00110101], .dec_mhl), ([0b00110110, 0xA5], .ld_mhl_d8 0xA5), ([0b00110111], .scf),
      ([0b00111000, 0xA5], .jr_c_e8 0xA5), ([0b00111001], .add_hl_sp), ([0b00111010], .ld_a_mhld), ([0b00111011], .dec_sp),
      ([0b00111100], .inc_a), ([0b00111101], .dec_a), ([0b00111110, 0xA5], .ld_a_d8 0xA5), ([0b00111111], .ccf)] = true := by
  decide
theorem test_decode_base_40 :
    decodesTo [
      ([0b01000000], .ld_b_b), ([0b01000001], .ld_b_c), ([0b01000010], .ld_b_d), ([0b01000011], .ld_b_e),
      ([0b01000100], .ld_b_h), ([0b01000101], .ld_b_l), ([0b01000110], .ld_b_mhl), ([0b01000111], .ld_b_a),
      ([0b01001000], .ld_c_b), ([0b01001001], .ld_c_c), ([0b01001010], .ld_c_d), ([0b01001011], .ld_c_e),
      ([0b01001100], .ld_c_h), ([0b01001101], .ld_c_l), ([0b01001110], .ld_c_mhl), ([0b01001111], .ld_c_a)] = true := by
  decide
theorem test_decode_base_50 :
    decodesTo [
      ([0b01010000], .ld_d_b), ([0b01010001], .ld_d_c), ([0b01010010], .ld_d_d), ([0b01010011], .ld_d_e),
      ([0b01010100], .ld_d_h), ([0b01010101], .ld_d_l), ([0b01010110], .ld_d_mhl), ([0b01010111], .ld_d_a),
      ([0b01011000], .ld_e_b), ([0b01011001], .ld_e_c), ([0b01011010], .ld_e_d), ([0b01011011], .ld_e_e),
      ([0b01011100], .ld_e_h), ([0b01011101], .ld_e_l), ([0b01011110], .ld_e_mhl), ([0b01011111], .ld_e_a)] = true := by
  decide
theorem test_decode_base_60 :
    decodesTo [
      ([0b01100000], .ld_h_b), ([0b01100001], .ld_h_c), ([0b01100010], .ld_h_d), ([0b01100011], .ld_h_e),
      ([0b01100100], .ld_h_h), ([0b01100101], .ld_h_l), ([0b01100110], .ld_h_mhl), ([0b01100111], .ld_h_a),
      ([0b01101000], .ld_l_b), ([0b01101001], .ld_l_c), ([0b01101010], .ld_l_d), ([0b01101011], .ld_l_e),
      ([0b01101100], .ld_l_h), ([0b01101101], .ld_l_l), ([0b01101110], .ld_l_mhl), ([0b01101111], .ld_l_a)] = true := by
  decide
theorem test_decode_base_70 :
    decodesTo [
      ([0b01110000], .ld_mhl_b), ([0b01110001], .ld_mhl_c), ([0b01110010], .ld_mhl_d), ([0b01110011], .ld_mhl_e),
      ([0b01110100], .ld_mhl_h), ([0b01110101], .ld_mhl_l), ([0b01110110], .halt), ([0b01110111], .ld_mhl_a),
      ([0b01111000], .ld_a_b), ([0b01111001], .ld_a_c), ([0b01111010], .ld_a_d), ([0b01111011], .ld_a_e),
      ([0b01111100], .ld_a_h), ([0b01111101], .ld_a_l), ([0b01111110], .ld_a_mhl), ([0b01111111], .ld_a_a)] = true := by
  decide
theorem test_decode_base_80 :
    decodesTo [
      ([0b10000000], .add_a_b), ([0b10000001], .add_a_c), ([0b10000010], .add_a_d), ([0b10000011], .add_a_e),
      ([0b10000100], .add_a_h), ([0b10000101], .add_a_l), ([0b10000110], .add_a_mhl), ([0b10000111], .add_a_a),
      ([0b10001000], .adc_a_b), ([0b10001001], .adc_a_c), ([0b10001010], .adc_a_d), ([0b10001011], .adc_a_e),
      ([0b10001100], .adc_a_h), ([0b10001101], .adc_a_l), ([0b10001110], .adc_a_mhl), ([0b10001111], .adc_a_a)] = true := by
  decide
theorem test_decode_base_90 :
    decodesTo [
      ([0b10010000], .sub_a_b), ([0b10010001], .sub_a_c), ([0b10010010], .sub_a_d), ([0b10010011], .sub_a_e),
      ([0b10010100], .sub_a_h), ([0b10010101], .sub_a_l), ([0b10010110], .sub_a_mhl), ([0b10010111], .sub_a_a),
      ([0b10011000], .sbc_a_b), ([0b10011001], .sbc_a_c), ([0b10011010], .sbc_a_d), ([0b10011011], .sbc_a_e),
      ([0b10011100], .sbc_a_h), ([0b10011101], .sbc_a_l), ([0b10011110], .sbc_a_mhl), ([0b10011111], .sbc_a_a)] = true := by
  decide
theorem test_decode_base_A0 :
    decodesTo [
      ([0b10100000], .and_a_b), ([0b10100001], .and_a_c), ([0b10100010], .and_a_d), ([0b10100011], .and_a_e),
      ([0b10100100], .and_a_h), ([0b10100101], .and_a_l), ([0b10100110], .and_a_mhl), ([0b10100111], .and_a_a),
      ([0b10101000], .xor_a_b), ([0b10101001], .xor_a_c), ([0b10101010], .xor_a_d), ([0b10101011], .xor_a_e),
      ([0b10101100], .xor_a_h), ([0b10101101], .xor_a_l), ([0b10101110], .xor_a_mhl), ([0b10101111], .xor_a_a)] = true := by
  decide
theorem test_decode_base_B0 :
    decodesTo [
      ([0b10110000], .or_a_b), ([0b10110001], .or_a_c), ([0b10110010], .or_a_d), ([0b10110011], .or_a_e),
      ([0b10110100], .or_a_h), ([0b10110101], .or_a_l), ([0b10110110], .or_a_mhl), ([0b10110111], .or_a_a),
      ([0b10111000], .cp_a_b), ([0b10111001], .cp_a_c), ([0b10111010], .cp_a_d), ([0b10111011], .cp_a_e),
      ([0b10111100], .cp_a_h), ([0b10111101], .cp_a_l), ([0b10111110], .cp_a_mhl), ([0b10111111], .cp_a_a)] = true := by
  decide
theorem test_decode_base_C0 :
    decodesTo [
      ([0b11000000], .ret_nz), ([0b11000001], .pop_bc), ([0b11000010, 0x34, 0x12], .jp_nz_a16 0x1234), ([0b11000011, 0x34, 0x12], .jp_a16 0x1234),
      ([0b11000100, 0x34, 0x12], .call_nz_a16 0x1234), ([0b11000101], .push_bc), ([0b11000110, 0xA5], .add_a_d8 0xA5), ([0b11000111], .rst_00),
      ([0b11001000], .ret_z), ([0b11001001], .ret), ([0b11001010, 0x34, 0x12], .jp_z_a16 0x1234), ([0b11001100, 0x34, 0x12], .call_z_a16 0x1234),
      ([0b11001101, 0x34, 0x12], .call_a16 0x1234), ([0b11001110, 0xA5], .adc_a_d8 0xA5), ([0b11001111], .rst_08)] = true := by
  decide
theorem test_decode_base_D0 :
    decodesTo [
      ([0b11010000], .ret_nc), ([0b11010001], .pop_de), ([0b11010010, 0x34, 0x12], .jp_nc_a16 0x1234), ([0b11010011], .illegal_d3),
      ([0b11010100, 0x34, 0x12], .call_nc_a16 0x1234), ([0b11010101], .push_de), ([0b11010110, 0xA5], .sub_a_d8 0xA5), ([0b11010111], .rst_10),
      ([0b11011000], .ret_c), ([0b11011001], .reti), ([0b11011010, 0x34, 0x12], .jp_c_a16 0x1234), ([0b11011011], .illegal_db),
      ([0b11011100, 0x34, 0x12], .call_c_a16 0x1234), ([0b11011101], .illegal_dd), ([0b11011110, 0xA5], .sbc_a_d8 0xA5), ([0b11011111], .rst_18)] = true := by
  decide
theorem test_decode_base_E0 :
    decodesTo [
      ([0b11100000, 0xA5], .ldh_ma8_a 0xA5), ([0b11100001], .pop_hl), ([0b11100010], .ld_mc_a), ([0b11100011], .illegal_e3),
      ([0b11100100], .illegal_e4), ([0b11100101], .push_hl), ([0b11100110, 0xA5], .and_a_d8 0xA5), ([0b11100111], .rst_20),
      ([0b11101000, 0xA5], .add_sp_e8 0xA5), ([0b11101001], .jp_hl), ([0b11101010, 0x34, 0x12], .ld_ma16_a 0x1234), ([0b11101011], .illegal_eb),
      ([0b11101100], .illegal_ec), ([0b11101101], .illegal_ed), ([0b11101110, 0xA5], .xor_a_d8 0xA5), ([0b11101111], .rst_28)] = true := by
  decide
theorem test_decode_base_F0 :
    decodesTo [
      ([0b11110000, 0xA5], .ldh_a_ma8 0xA5), ([0b11110001], .pop_af), ([0b11110010], .ld_a_mc), ([0b11110011], .di),
      ([0b11110100], .illegal_f4), ([0b11110101], .push_af), ([0b11110110, 0xA5], .or_a_d8 0xA5), ([0b11110111], .rst_30),
      ([0b11111000, 0xA5], .ld_hl_spe8 0xA5), ([0b11111001], .ld_sp_hl), ([0b11111010, 0x34, 0x12], .ld_a_ma16 0x1234), ([0b11111011], .ei),
      ([0b11111100], .illegal_fc), ([0b11111101], .illegal_fd), ([0b11111110, 0xA5], .cp_a_d8 0xA5), ([0b11111111], .rst_38)] = true := by
  decide
theorem test_decode_cb_00 :
    decodesTo [
      ([0b11001011, 0b00000000], .rlc_b), ([0b11001011, 0b00000001], .rlc_c), ([0b11001011, 0b00000010], .rlc_d), ([0b11001011, 0b00000011], .rlc_e),
      ([0b11001011, 0b00000100], .rlc_h), ([0b11001011, 0b00000101], .rlc_l), ([0b11001011, 0b00000110], .rlc_mhl), ([0b11001011, 0b00000111], .rlc_a),
      ([0b11001011, 0b00001000], .rrc_b), ([0b11001011, 0b00001001], .rrc_c), ([0b11001011, 0b00001010], .rrc_d), ([0b11001011, 0b00001011], .rrc_e),
      ([0b11001011, 0b00001100], .rrc_h), ([0b11001011, 0b00001101], .rrc_l), ([0b11001011, 0b00001110], .rrc_mhl), ([0b11001011, 0b00001111], .rrc_a)] = true := by
  decide
theorem test_decode_cb_10 :
    decodesTo [
      ([0b11001011, 0b00010000], .rl_b), ([0b11001011, 0b00010001], .rl_c), ([0b11001011, 0b00010010], .rl_d), ([0b11001011, 0b00010011], .rl_e),
      ([0b11001011, 0b00010100], .rl_h), ([0b11001011, 0b00010101], .rl_l), ([0b11001011, 0b00010110], .rl_mhl), ([0b11001011, 0b00010111], .rl_a),
      ([0b11001011, 0b00011000], .rr_b), ([0b11001011, 0b00011001], .rr_c), ([0b11001011, 0b00011010], .rr_d), ([0b11001011, 0b00011011], .rr_e),
      ([0b11001011, 0b00011100], .rr_h), ([0b11001011, 0b00011101], .rr_l), ([0b11001011, 0b00011110], .rr_mhl), ([0b11001011, 0b00011111], .rr_a)] = true := by
  decide
theorem test_decode_cb_20 :
    decodesTo [
      ([0b11001011, 0b00100000], .sla_b), ([0b11001011, 0b00100001], .sla_c), ([0b11001011, 0b00100010], .sla_d), ([0b11001011, 0b00100011], .sla_e),
      ([0b11001011, 0b00100100], .sla_h), ([0b11001011, 0b00100101], .sla_l), ([0b11001011, 0b00100110], .sla_mhl), ([0b11001011, 0b00100111], .sla_a),
      ([0b11001011, 0b00101000], .sra_b), ([0b11001011, 0b00101001], .sra_c), ([0b11001011, 0b00101010], .sra_d), ([0b11001011, 0b00101011], .sra_e),
      ([0b11001011, 0b00101100], .sra_h), ([0b11001011, 0b00101101], .sra_l), ([0b11001011, 0b00101110], .sra_mhl), ([0b11001011, 0b00101111], .sra_a)] = true := by
  decide
theorem test_decode_cb_30 :
    decodesTo [
      ([0b11001011, 0b00110000], .swap_b), ([0b11001011, 0b00110001], .swap_c), ([0b11001011, 0b00110010], .swap_d), ([0b11001011, 0b00110011], .swap_e),
      ([0b11001011, 0b00110100], .swap_h), ([0b11001011, 0b00110101], .swap_l), ([0b11001011, 0b00110110], .swap_mhl), ([0b11001011, 0b00110111], .swap_a),
      ([0b11001011, 0b00111000], .srl_b), ([0b11001011, 0b00111001], .srl_c), ([0b11001011, 0b00111010], .srl_d), ([0b11001011, 0b00111011], .srl_e),
      ([0b11001011, 0b00111100], .srl_h), ([0b11001011, 0b00111101], .srl_l), ([0b11001011, 0b00111110], .srl_mhl), ([0b11001011, 0b00111111], .srl_a)] = true := by
  decide
theorem test_decode_cb_40 :
    decodesTo [
      ([0b11001011, 0b01000000], .bit_0_b), ([0b11001011, 0b01000001], .bit_0_c), ([0b11001011, 0b01000010], .bit_0_d), ([0b11001011, 0b01000011], .bit_0_e),
      ([0b11001011, 0b01000100], .bit_0_h), ([0b11001011, 0b01000101], .bit_0_l), ([0b11001011, 0b01000110], .bit_0_mhl), ([0b11001011, 0b01000111], .bit_0_a),
      ([0b11001011, 0b01001000], .bit_1_b), ([0b11001011, 0b01001001], .bit_1_c), ([0b11001011, 0b01001010], .bit_1_d), ([0b11001011, 0b01001011], .bit_1_e),
      ([0b11001011, 0b01001100], .bit_1_h), ([0b11001011, 0b01001101], .bit_1_l), ([0b11001011, 0b01001110], .bit_1_mhl), ([0b11001011, 0b01001111], .bit_1_a)] = true := by
  decide
theorem test_decode_cb_50 :
    decodesTo [
      ([0b11001011, 0b01010000], .bit_2_b), ([0b11001011, 0b01010001], .bit_2_c), ([0b11001011, 0b01010010], .bit_2_d), ([0b11001011, 0b01010011], .bit_2_e),
      ([0b11001011, 0b01010100], .bit_2_h), ([0b11001011, 0b01010101], .bit_2_l), ([0b11001011, 0b01010110], .bit_2_mhl), ([0b11001011, 0b01010111], .bit_2_a),
      ([0b11001011, 0b01011000], .bit_3_b), ([0b11001011, 0b01011001], .bit_3_c), ([0b11001011, 0b01011010], .bit_3_d), ([0b11001011, 0b01011011], .bit_3_e),
      ([0b11001011, 0b01011100], .bit_3_h), ([0b11001011, 0b01011101], .bit_3_l), ([0b11001011, 0b01011110], .bit_3_mhl), ([0b11001011, 0b01011111], .bit_3_a)] = true := by
  decide
theorem test_decode_cb_60 :
    decodesTo [
      ([0b11001011, 0b01100000], .bit_4_b), ([0b11001011, 0b01100001], .bit_4_c), ([0b11001011, 0b01100010], .bit_4_d), ([0b11001011, 0b01100011], .bit_4_e),
      ([0b11001011, 0b01100100], .bit_4_h), ([0b11001011, 0b01100101], .bit_4_l), ([0b11001011, 0b01100110], .bit_4_mhl), ([0b11001011, 0b01100111], .bit_4_a),
      ([0b11001011, 0b01101000], .bit_5_b), ([0b11001011, 0b01101001], .bit_5_c), ([0b11001011, 0b01101010], .bit_5_d), ([0b11001011, 0b01101011], .bit_5_e),
      ([0b11001011, 0b01101100], .bit_5_h), ([0b11001011, 0b01101101], .bit_5_l), ([0b11001011, 0b01101110], .bit_5_mhl), ([0b11001011, 0b01101111], .bit_5_a)] = true := by
  decide
theorem test_decode_cb_70 :
    decodesTo [
      ([0b11001011, 0b01110000], .bit_6_b), ([0b11001011, 0b01110001], .bit_6_c), ([0b11001011, 0b01110010], .bit_6_d), ([0b11001011, 0b01110011], .bit_6_e),
      ([0b11001011, 0b01110100], .bit_6_h), ([0b11001011, 0b01110101], .bit_6_l), ([0b11001011, 0b01110110], .bit_6_mhl), ([0b11001011, 0b01110111], .bit_6_a),
      ([0b11001011, 0b01111000], .bit_7_b), ([0b11001011, 0b01111001], .bit_7_c), ([0b11001011, 0b01111010], .bit_7_d), ([0b11001011, 0b01111011], .bit_7_e),
      ([0b11001011, 0b01111100], .bit_7_h), ([0b11001011, 0b01111101], .bit_7_l), ([0b11001011, 0b01111110], .bit_7_mhl), ([0b11001011, 0b01111111], .bit_7_a)] = true := by
  decide
theorem test_decode_cb_80 :
    decodesTo [
      ([0b11001011, 0b10000000], .res_0_b), ([0b11001011, 0b10000001], .res_0_c), ([0b11001011, 0b10000010], .res_0_d), ([0b11001011, 0b10000011], .res_0_e),
      ([0b11001011, 0b10000100], .res_0_h), ([0b11001011, 0b10000101], .res_0_l), ([0b11001011, 0b10000110], .res_0_mhl), ([0b11001011, 0b10000111], .res_0_a),
      ([0b11001011, 0b10001000], .res_1_b), ([0b11001011, 0b10001001], .res_1_c), ([0b11001011, 0b10001010], .res_1_d), ([0b11001011, 0b10001011], .res_1_e),
      ([0b11001011, 0b10001100], .res_1_h), ([0b11001011, 0b10001101], .res_1_l), ([0b11001011, 0b10001110], .res_1_mhl), ([0b11001011, 0b10001111], .res_1_a)] = true := by
  decide
theorem test_decode_cb_90 :
    decodesTo [
      ([0b11001011, 0b10010000], .res_2_b), ([0b11001011, 0b10010001], .res_2_c), ([0b11001011, 0b10010010], .res_2_d), ([0b11001011, 0b10010011], .res_2_e),
      ([0b11001011, 0b10010100], .res_2_h), ([0b11001011, 0b10010101], .res_2_l), ([0b11001011, 0b10010110], .res_2_mhl), ([0b11001011, 0b10010111], .res_2_a),
      ([0b11001011, 0b10011000], .res_3_b), ([0b11001011, 0b10011001], .res_3_c), ([0b11001011, 0b10011010], .res_3_d), ([0b11001011, 0b10011011], .res_3_e),
      ([0b11001011, 0b10011100], .res_3_h), ([0b11001011, 0b10011101], .res_3_l), ([0b11001011, 0b10011110], .res_3_mhl), ([0b11001011, 0b10011111], .res_3_a)] = true := by
  decide
theorem test_decode_cb_A0 :
    decodesTo [
      ([0b11001011, 0b10100000], .res_4_b), ([0b11001011, 0b10100001], .res_4_c), ([0b11001011, 0b10100010], .res_4_d), ([0b11001011, 0b10100011], .res_4_e),
      ([0b11001011, 0b10100100], .res_4_h), ([0b11001011, 0b10100101], .res_4_l), ([0b11001011, 0b10100110], .res_4_mhl), ([0b11001011, 0b10100111], .res_4_a),
      ([0b11001011, 0b10101000], .res_5_b), ([0b11001011, 0b10101001], .res_5_c), ([0b11001011, 0b10101010], .res_5_d), ([0b11001011, 0b10101011], .res_5_e),
      ([0b11001011, 0b10101100], .res_5_h), ([0b11001011, 0b10101101], .res_5_l), ([0b11001011, 0b10101110], .res_5_mhl), ([0b11001011, 0b10101111], .res_5_a)] = true := by
  decide
theorem test_decode_cb_B0 :
    decodesTo [
      ([0b11001011, 0b10110000], .res_6_b), ([0b11001011, 0b10110001], .res_6_c), ([0b11001011, 0b10110010], .res_6_d), ([0b11001011, 0b10110011], .res_6_e),
      ([0b11001011, 0b10110100], .res_6_h), ([0b11001011, 0b10110101], .res_6_l), ([0b11001011, 0b10110110], .res_6_mhl), ([0b11001011, 0b10110111], .res_6_a),
      ([0b11001011, 0b10111000], .res_7_b), ([0b11001011, 0b10111001], .res_7_c), ([0b11001011, 0b10111010], .res_7_d), ([0b11001011, 0b10111011], .res_7_e),
      ([0b11001011, 0b10111100], .res_7_h), ([0b11001011, 0b10111101], .res_7_l), ([0b11001011, 0b10111110], .res_7_mhl), ([0b11001011, 0b10111111], .res_7_a)] = true := by
  decide
theorem test_decode_cb_C0 :
    decodesTo [
      ([0b11001011, 0b11000000], .set_0_b), ([0b11001011, 0b11000001], .set_0_c), ([0b11001011, 0b11000010], .set_0_d), ([0b11001011, 0b11000011], .set_0_e),
      ([0b11001011, 0b11000100], .set_0_h), ([0b11001011, 0b11000101], .set_0_l), ([0b11001011, 0b11000110], .set_0_mhl), ([0b11001011, 0b11000111], .set_0_a),
      ([0b11001011, 0b11001000], .set_1_b), ([0b11001011, 0b11001001], .set_1_c), ([0b11001011, 0b11001010], .set_1_d), ([0b11001011, 0b11001011], .set_1_e),
      ([0b11001011, 0b11001100], .set_1_h), ([0b11001011, 0b11001101], .set_1_l), ([0b11001011, 0b11001110], .set_1_mhl), ([0b11001011, 0b11001111], .set_1_a)] = true := by
  decide
theorem test_decode_cb_D0 :
    decodesTo [
      ([0b11001011, 0b11010000], .set_2_b), ([0b11001011, 0b11010001], .set_2_c), ([0b11001011, 0b11010010], .set_2_d), ([0b11001011, 0b11010011], .set_2_e),
      ([0b11001011, 0b11010100], .set_2_h), ([0b11001011, 0b11010101], .set_2_l), ([0b11001011, 0b11010110], .set_2_mhl), ([0b11001011, 0b11010111], .set_2_a),
      ([0b11001011, 0b11011000], .set_3_b), ([0b11001011, 0b11011001], .set_3_c), ([0b11001011, 0b11011010], .set_3_d), ([0b11001011, 0b11011011], .set_3_e),
      ([0b11001011, 0b11011100], .set_3_h), ([0b11001011, 0b11011101], .set_3_l), ([0b11001011, 0b11011110], .set_3_mhl), ([0b11001011, 0b11011111], .set_3_a)] = true := by
  decide
theorem test_decode_cb_E0 :
    decodesTo [
      ([0b11001011, 0b11100000], .set_4_b), ([0b11001011, 0b11100001], .set_4_c), ([0b11001011, 0b11100010], .set_4_d), ([0b11001011, 0b11100011], .set_4_e),
      ([0b11001011, 0b11100100], .set_4_h), ([0b11001011, 0b11100101], .set_4_l), ([0b11001011, 0b11100110], .set_4_mhl), ([0b11001011, 0b11100111], .set_4_a),
      ([0b11001011, 0b11101000], .set_5_b), ([0b11001011, 0b11101001], .set_5_c), ([0b11001011, 0b11101010], .set_5_d), ([0b11001011, 0b11101011], .set_5_e),
      ([0b11001011, 0b11101100], .set_5_h), ([0b11001011, 0b11101101], .set_5_l), ([0b11001011, 0b11101110], .set_5_mhl), ([0b11001011, 0b11101111], .set_5_a)] = true := by
  decide
theorem test_decode_cb_F0 :
    decodesTo [
      ([0b11001011, 0b11110000], .set_6_b), ([0b11001011, 0b11110001], .set_6_c), ([0b11001011, 0b11110010], .set_6_d), ([0b11001011, 0b11110011], .set_6_e),
      ([0b11001011, 0b11110100], .set_6_h), ([0b11001011, 0b11110101], .set_6_l), ([0b11001011, 0b11110110], .set_6_mhl), ([0b11001011, 0b11110111], .set_6_a),
      ([0b11001011, 0b11111000], .set_7_b), ([0b11001011, 0b11111001], .set_7_c), ([0b11001011, 0b11111010], .set_7_d), ([0b11001011, 0b11111011], .set_7_e),
      ([0b11001011, 0b11111100], .set_7_h), ([0b11001011, 0b11111101], .set_7_l), ([0b11001011, 0b11111110], .set_7_mhl), ([0b11001011, 0b11111111], .set_7_a)] = true := by
  decide
/-- The prefix byte: SWAP A, not an entry of its own (R67, R173). -/
theorem test_decode_prefix : decode [0b11001011, 0b00110111] = .ok (.swap_a, []) := by decide
/-- S8: the same bytes decode to the same record twice, with the fields of `BIT 7,H`. -/
theorem test_decode_bit_7_h :
    (decode3 0xCB 0x7C 0x00).record = ⟨.cb 0x7C, .bit, .r8 .h, .lit 7, 2, 2, 0⟩ := by decide
theorem test_decode_refuses_no_byte : decode [] = .error .noByte := by decide
theorem test_decode_refuses_a_truncated_word : decode [0x01, 0xFE] = .error .truncated := by decide
/-- S11 (R74). -/
theorem test_format_ld_bc : format (decode3 0x01 0xFE 0xCA) = "ld bc, 0xcafe" := by decide
theorem test_format_bit : format (decode3 0xCB 0x7C 0x00) = "bit 7, h" := by decide

/-! ### One step, on a small state (spec/95_test_vectors.md) -/

/-- Running, the boot ROM unmapped, no cartridge, the bytes `code` at `pc`, and the bytes `mem` elsewhere; the host sends
nothing at the step boundary. -/
def ready (pc : Nat) (code : List Byte) (mem : List Host.Cell := []) : State :=
  let cells := mem ++ code.zipIdx.map (fun x => (pc + x.2, x.1))
  { State.reset with
    pc := BitVec.ofNat 16 pc
    mode := .running
    bus := {
      bootRomActive := false
      ram := Memory.storeAll isPlainRam [] cells
      io := Memory.storeAll isVolatile [] cells
      bootRom := []
      cart := none }
    host := [⟨false, []⟩] }

/-- The step answers a next state of which `p` holds, and it costs `n` cycles. -/
def gives (s : State) (n : Nat) (p : State → Bool) : Bool :=
  match runStep s with
  | .next (t, k) => k == n && p t
  | _ => false

/-- Section 2.1, R93. -/
theorem test_ld_a_b_1 :
    gives { ready 0xD000 [0x78] with b := 0x12 } 1
      (fun t => t.a == 0x12 && t.pc == 0xD001) = true := by
  decide
/-- Section 2.1, R93. -/
theorem test_ld_a_a_1 :
    gives { ready 0xD000 [0x7F] with a := 0x77 } 1
      (fun t => t.pc == 0xD001) = true := by
  decide
/-- Section 2.1, R94. -/
theorem test_ld_b_mhl_1 :
    gives { ready 0xD000 [0x46] [(0xC000, 0x5A)] with h := 0xC0, l := 0x00 } 2
      (fun t => t.b == 0x5A && t.pc == 0xD001) = true := by
  decide
/-- Section 2.1, R94. -/
theorem test_ld_h_mhl_1 :
    gives { ready 0xD000 [0x66] [(0xC000, 0x12)] with h := 0xC0, l := 0x00 } 2
      (fun t => t.h == 0x12 && t.l == 0x00 && t.pc == 0xD001) = true := by
  decide
/-- Section 2.1, R95. -/
theorem test_ld_mhl_a_1 :
    gives { ready 0xD000 [0x77] with h := 0xC0, l := 0x00, a := 0x77 } 2
      (fun t => t.read 0xC000 == 0x77 && t.pc == 0xD001) = true := by
  decide
/-- Section 2.1, R95. -/
theorem test_ld_mhl_l_1 :
    gives { ready 0xD000 [0x75] with h := 0xC0, l := 0xAB } 2
      (fun t => t.read 0xC0AB == 0xAB && t.pc == 0xD001) = true := by
  decide
/-- Section 2.1, R96. -/
theorem test_ld_b_d8_1 :
    gives (ready 0xD000 [0x06, 0x42]) 2
      (fun t => t.b == 0x42 && t.pc == 0xD002) = true := by
  decide
/-- Section 2.1, R97. -/
theorem test_ld_mhl_d8_1 :
    gives { ready 0xD000 [0x36, 0x99] with h := 0xC0, l := 0x10 } 3
      (fun t => t.read 0xC010 == 0x99 && t.pc == 0xD002) = true := by
  decide
/-- Section 2.1, R98. -/
theorem test_ld_a_mbc_1 :
    gives { ready 0xD000 [0x0A] [(0xC000, 0x3C)] with b := 0xC0, c := 0x00 } 2
      (fun t => t.a == 0x3C && t.pc == 0xD001) = true := by
  decide
/-- Section 2.1, R99. -/
theorem test_ld_mde_a_1 :
    gives { ready 0xD000 [0x12] with d := 0xC0, e := 0x01, a := 0x09 } 2
      (fun t => t.read 0xC001 == 0x09 && t.pc == 0xD001) = true := by
  decide
/-- Section 2.1, R100. -/
theorem test_ld_a_mhli_1 :
    gives { ready 0xD000 [0x2A] [(0xC0FF, 0x01)] with h := 0xC0, l := 0xFF } 2
      (fun t => t.a == 0x01 && t.h == 0xC1 && t.l == 0x00 && t.pc == 0xD001) = true := by
  decide
/-- Section 2.1, R100. -/
theorem test_ld_a_mhli_2 :
    gives { ready 0xD000 [0x2A] [(0xFFFF, 0x1F)] with h := 0xFF, l := 0xFF } 2
      (fun t => t.a == 0x1F && t.h == 0x00 && t.l == 0x00 && t.pc == 0xD001) = true := by
  decide
/-- Section 2.1, R101. -/
theorem test_ld_a_mhld_1 :
    gives { ready 0xD000 [0x3A] [(0xC000, 0x44)] with h := 0xC0, l := 0x00 } 2
      (fun t => t.a == 0x44 && t.h == 0xBF && t.l == 0xFF && t.pc == 0xD001) = true := by
  decide
/-- Section 2.1, R102. -/
theorem test_ld_mhli_a_1 :
    gives { ready 0xD000 [0x22] with h := 0xC0, l := 0x00, a := 0xAB } 2
      (fun t => t.h == 0xC0 && t.l == 0x01 && t.read 0xC000 == 0xAB && t.pc == 0xD001) = true := by
  decide
/-- Section 2.1, R103. -/
theorem test_ld_mhld_a_1 :
    gives { ready 0xD000 [0x32] with h := 0x9F, l := 0xFF, a := 0x00 } 2
      (fun t => t.h == 0x9F && t.l == 0xFE && t.read 0x9FFF == 0x00 && t.pc == 0xD001) = true := by
  decide
/-- Section 2.1, R104. -/
theorem test_ld_a_ma16_1 :
    gives (ready 0xD000 [0xFA, 0x00, 0xC0] [(0xC000, 0x42)]) 4
      (fun t => t.a == 0x42 && t.pc == 0xD003) = true := by
  decide
/-- Section 2.1, R105. -/
theorem test_ld_ma16_a_1 :
    gives { ready 0xD000 [0xEA, 0x34, 0xC2] with a := 0x07 } 4
      (fun t => t.read 0xC234 == 0x07 && t.pc == 0xD003) = true := by
  decide
/-- Section 2.1, R106. -/
theorem test_ldh_a_ma8_1 :
    gives (ready 0xD000 [0xF0, 0x80] [(0xFF80, 0x11)]) 3
      (fun t => t.a == 0x11 && t.pc == 0xD002) = true := by
  decide
/-- Section 2.1, R108. -/
theorem test_ld_a_mc_1 :
    gives { ready 0xD000 [0xF2] [(0xFF80, 0x22)] with c := 0x80 } 2
      (fun t => t.a == 0x22 && t.pc == 0xD001) = true := by
  decide
/-- Section 2.1, R109. -/
theorem test_ld_mc_a_1 :
    gives { ready 0xD000 [0xE2] with c := 0x81, a := 0x33 } 2
      (fun t => t.read 0xFF81 == 0x33 && t.pc == 0xD001) = true := by
  decide
/-- Section 2.1, R110. -/
theorem test_ld_sp_d16_1 :
    gives (ready 0xD000 [0x31, 0xFE, 0xFF]) 3
      (fun t => t.sp == 0xFFFE && t.pc == 0xD003) = true := by
  decide
/-- Section 2.1, R111. -/
theorem test_ld_ma16_sp_1 :
    gives { ready 0xD000 [0x08, 0x00, 0xC1] with sp := 0xFFF8 } 5
      (fun t => t.read 0xC100 == 0xF8 && t.read 0xC101 == 0xFF && t.pc == 0xD003) = true := by
  decide
/-- Section 2.1, R112. -/
theorem test_ld_sp_hl_1 :
    gives { ready 0xD000 [0xF9] with h := 0xDF, l := 0xFF } 2
      (fun t => t.sp == 0xDFFF && t.pc == 0xD001) = true := by
  decide
/-- Section 2.1, R113. -/
theorem test_ld_hl_spe8_1 :
    gives { ready 0xD000 [0xF8, 0x02] with sp := 0xFFF8 } 3
      (fun t => t.h == 0xFF && t.l == 0xFA && t.f == 0x00 && t.pc == 0xD002) = true := by
  decide
/-- Section 2.1, R113. -/
theorem test_ld_hl_spe8_2 :
    gives { ready 0xD000 [0xF8, 0xFF] with sp := 0x0001 } 3
      (fun t => t.h == 0x00 && t.l == 0x00 && t.f == 0x30 && t.pc == 0xD002) = true := by
  decide
/-- Section 2.1, R114. -/
theorem test_push_bc_1 :
    gives { ready 0xD000 [0xC5] with sp := 0xFFFE, b := 0x12, c := 0x34 } 4
      (fun t => t.sp == 0xFFFC && t.read 0xFFFD == 0x12 && t.read 0xFFFC == 0x34 && t.pc == 0xD001) = true := by
  decide
/-- Section 2.1, R114. -/
theorem test_push_de_1 :
    gives { ready 0xD000 [0xD5] with sp := 0x0000, d := 0xAB, e := 0xCD } 4
      (fun t => t.sp == 0xFFFE && t.read 0xFFFF == 0xAB && t.read 0xFFFE == 0xCD && t.pc == 0xD001) = true := by
  decide
/-- Section 2.1, R115. -/
theorem test_pop_bc_1 :
    gives { ready 0xD000 [0xC1] [(0xFFFC, 0x34), (0xFFFD, 0x12)] with sp := 0xFFFC } 3
      (fun t => t.b == 0x12 && t.c == 0x34 && t.sp == 0xFFFE && t.pc == 0xD001) = true := by
  decide
/-- Section 2.1, R116. -/
theorem test_pop_af_1 :
    gives { ready 0xD000 [0xF1] [(0xFFFC, 0xFF), (0xFFFD, 0x12)] with sp := 0xFFFC } 3
      (fun t => t.a == 0x12 && t.f == 0xF0 && t.sp == 0xFFFE && t.pc == 0xD001) = true := by
  decide
/-- Section 2.1, R116. -/
theorem test_pop_af_2 :
    gives { ready 0xD000 [0xF1] [(0xFFFC, 0x0F), (0xFFFD, 0x12)] with sp := 0xFFFC } 3
      (fun t => t.a == 0x12 && t.f == 0x00 && t.pc == 0xD001) = true := by
  decide
/-- Section 2.2, R120. -/
theorem test_add_a_b_1 :
    gives { ready 0xD000 [0x80] with a := 0x3A, b := 0xC6 } 1
      (fun t => t.a == 0x00 && t.f == 0xB0 && t.pc == 0xD001) = true := by
  decide
/-- Section 2.2, R120. -/
theorem test_add_a_d8_1 :
    gives { ready 0xD000 [0xC6, 0x01] with a := 0x0F } 2
      (fun t => t.a == 0x10 && t.f == 0x20 && t.pc == 0xD002) = true := by
  decide
/-- Section 2.2, R120. -/
theorem test_add_a_a_1 :
    gives { ready 0xD000 [0x87] with a := 0x80 } 1
      (fun t => t.a == 0x00 && t.f == 0x90 && t.pc == 0xD001) = true := by
  decide
/-- Section 2.2, R121. -/
theorem test_adc_a_e_1 :
    gives { ready 0xD000 [0x8B] with a := 0xE1, e := 0x0F, f := 0x10 } 1
      (fun t => t.a == 0xF1 && t.f == 0x20 && t.pc == 0xD001) = true := by
  decide
/-- Section 2.2, R121. -/
theorem test_adc_a_d8_1 :
    gives { ready 0xD000 [0xCE, 0x00] with a := 0xFF, f := 0x10 } 2
      (fun t => t.a == 0x00 && t.f == 0xB0 && t.pc == 0xD002) = true := by
  decide
/-- Section 2.2, R122. -/
theorem test_sub_a_e_1 :
    gives { ready 0xD000 [0x93] with a := 0x3E, e := 0x3E } 1
      (fun t => t.a == 0x00 && t.f == 0xC0 && t.pc == 0xD001) = true := by
  decide
/-- Section 2.2, R122. -/
theorem test_sub_a_d8_1 :
    gives { ready 0xD000 [0xD6, 0x40] with a := 0x3E } 2
      (fun t => t.a == 0xFE && t.f == 0x50 && t.pc == 0xD002) = true := by
  decide
/-- Section 2.2, R122. -/
theorem test_sub_a_d8_2 :
    gives { ready 0xD000 [0xD6, 0x01] with a := 0x10 } 2
      (fun t => t.a == 0x0F && t.f == 0x60 && t.pc == 0xD002) = true := by
  decide
/-- Section 2.2, R123. -/
theorem test_sbc_a_h_1 :
    gives { ready 0xD000 [0x9C] with a := 0x3B, h := 0x2A, f := 0x10 } 1
      (fun t => t.a == 0x10 && t.f == 0x40 && t.pc == 0xD001) = true := by
  decide
/-- Section 2.2, R123. -/
theorem test_sbc_a_a_1 :
    gives { ready 0xD000 [0x9F] with a := 0x55, f := 0x10 } 1
      (fun t => t.a == 0xFF && t.f == 0x70 && t.pc == 0xD001) = true := by
  decide
/-- Section 2.2, R123. -/
theorem test_sbc_a_a_2 :
    gives { ready 0xD000 [0x9F] with a := 0x55, f := 0x00 } 1
      (fun t => t.a == 0x00 && t.f == 0xC0 && t.pc == 0xD001) = true := by
  decide
/-- Section 2.2, R124. -/
theorem test_cp_a_b_1 :
    gives { ready 0xD000 [0xB8] with a := 0x3C, b := 0x2F } 1
      (fun t => t.a == 0x3C && t.f == 0x60 && t.pc == 0xD001) = true := by
  decide
/-- Section 2.2, R124. -/
theorem test_cp_a_d8_1 :
    gives { ready 0xD000 [0xFE, 0x3C] with a := 0x3C } 2
      (fun t => t.a == 0x3C && t.f == 0xC0 && t.pc == 0xD002) = true := by
  decide
/-- Section 2.2, R124. -/
theorem test_cp_a_d8_2 :
    gives { ready 0xD000 [0xFE, 0x40] with a := 0x3C } 2
      (fun t => t.a == 0x3C && t.f == 0x50 && t.pc == 0xD002) = true := by
  decide
/-- Section 2.2, R125. -/
theorem test_and_a_l_1 :
    gives { ready 0xD000 [0xA5] with a := 0x5A, l := 0x3F } 1
      (fun t => t.a == 0x1A && t.f == 0x20 && t.pc == 0xD001) = true := by
  decide
/-- Section 2.2, R125. -/
theorem test_and_a_d8_1 :
    gives { ready 0xD000 [0xE6, 0x00] with a := 0x5A } 2
      (fun t => t.a == 0x00 && t.f == 0xA0 && t.pc == 0xD002) = true := by
  decide
/-- Section 2.2, R126. -/
theorem test_xor_a_d8_1 :
    gives { ready 0xD000 [0xEE, 0x0F] with a := 0xFF } 2
      (fun t => t.a == 0xF0 && t.f == 0x00 && t.pc == 0xD002) = true := by
  decide
/-- Section 2.2, R126. -/
theorem test_xor_a_a_1 :
    gives { ready 0xD000 [0xAF] with a := 0x12, f := 0x70 } 1
      (fun t => t.a == 0x00 && t.f == 0x80 && t.pc == 0xD001) = true := by
  decide
/-- Section 2.2, R127. -/
theorem test_or_a_d8_1 :
    gives { ready 0xD000 [0xF6, 0x0F] with a := 0x5A } 2
      (fun t => t.a == 0x5F && t.f == 0x00 && t.pc == 0xD002) = true := by
  decide
/-- Section 2.2, R127. -/
theorem test_or_a_a_1 :
    gives { ready 0xD000 [0xB7] with a := 0x00, f := 0x70 } 1
      (fun t => t.a == 0x00 && t.f == 0x80 && t.pc == 0xD001) = true := by
  decide
/-- Section 2.2, R120. -/
theorem test_add_a_mhl_1 :
    gives { ready 0xD000 [0x86] [(0xC000, 0x77)] with h := 0xC0, l := 0x00, a := 0x01 } 2
      (fun t => t.a == 0x78 && t.f == 0x00 && t.pc == 0xD001) = true := by
  decide
/-- Section 2.2, R128. -/
theorem test_inc_b_1 :
    gives { ready 0xD000 [0x04] with b := 0xFF, f := 0x10 } 1
      (fun t => t.b == 0x00 && t.f == 0xB0 && t.pc == 0xD001) = true := by
  decide
/-- Section 2.2, R128. -/
theorem test_inc_b_2 :
    gives { ready 0xD000 [0x04] with b := 0x0F, f := 0x00 } 1
      (fun t => t.b == 0x10 && t.f == 0x20 && t.pc == 0xD001) = true := by
  decide
/-- Section 2.2, R129. -/
theorem test_inc_mhl_1 :
    gives { ready 0xD000 [0x34] [(0xC000, 0x0F)] with h := 0xC0, l := 0x00, f := 0x00 } 3
      (fun t => t.f == 0x20 && t.read 0xC000 == 0x10 && t.pc == 0xD001) = true := by
  decide
/-- Section 2.2, R130. -/
theorem test_dec_b_1 :
    gives { ready 0xD000 [0x05] with b := 0x01, f := 0x00 } 1
      (fun t => t.b == 0x00 && t.f == 0xC0 && t.pc == 0xD001) = true := by
  decide
/-- Section 2.2, R130. -/
theorem test_dec_a_1 :
    gives { ready 0xD000 [0x3D] with a := 0x00, f := 0x10 } 1
      (fun t => t.a == 0xFF && t.f == 0x70 && t.pc == 0xD001) = true := by
  decide
/-- Section 2.2, R131. -/
theorem test_dec_mhl_1 :
    gives { ready 0xD000 [0x35] [(0xC000, 0x00)] with h := 0xC0, l := 0x00, f := 0x00 } 3
      (fun t => t.f == 0x60 && t.read 0xC000 == 0xFF && t.pc == 0xD001) = true := by
  decide
/-- Section 2.2, R132. -/
theorem test_daa_2 :
    gives { ready 0xD000 [0x27] with a := 0x9A, f := 0x00 } 1
      (fun t => t.a == 0x00 && t.f == 0x90 && t.pc == 0xD001) = true := by
  decide
/-- Section 2.2, R132. -/
theorem test_daa_3 :
    gives { ready 0xD000 [0x27] with a := 0x4B, f := 0x60 } 1
      (fun t => t.a == 0x45 && t.f == 0x40 && t.pc == 0xD001) = true := by
  decide
/-- Section 2.2, R133. -/
theorem test_cpl_1 :
    gives { ready 0xD000 [0x2F] with a := 0x35, f := 0x00 } 1
      (fun t => t.a == 0xCA && t.f == 0x60 && t.pc == 0xD001) = true := by
  decide
/-- Section 2.2, R134. -/
theorem test_scf_1 :
    gives { ready 0xD000 [0x37] with f := 0xE0 } 1
      (fun t => t.f == 0x90 && t.pc == 0xD001) = true := by
  decide
/-- Section 2.2, R135. -/
theorem test_ccf_1 :
    gives { ready 0xD000 [0x3F] with f := 0x70 } 1
      (fun t => t.f == 0x00 && t.pc == 0xD001) = true := by
  decide
/-- Section 2.2, R135. -/
theorem test_ccf_2 :
    gives { ready 0xD000 [0x3F] with f := 0x80 } 1
      (fun t => t.f == 0x90 && t.pc == 0xD001) = true := by
  decide
/-- Section 2.3, R136. -/
theorem test_add_hl_bc_1 :
    gives { ready 0xD000 [0x09] with h := 0x8A, l := 0x23, b := 0x06, c := 0x05, f := 0x80 } 2
      (fun t => t.h == 0x90 && t.l == 0x28 && t.f == 0xA0 && t.pc == 0xD001) = true := by
  decide
/-- Section 2.3, R136. -/
theorem test_add_hl_hl_1 :
    gives { ready 0xD000 [0x29] with h := 0x8A, l := 0x23, f := 0x00 } 2
      (fun t => t.h == 0x14 && t.l == 0x46 && t.f == 0x30 && t.pc == 0xD001) = true := by
  decide
/-- Section 2.3, R136. -/
theorem test_add_hl_de_1 :
    gives { ready 0xD000 [0x19] with h := 0x0F, l := 0xFF, d := 0x00, e := 0x01, f := 0x00 } 2
      (fun t => t.h == 0x10 && t.l == 0x00 && t.f == 0x20 && t.pc == 0xD001) = true := by
  decide
/-- Section 2.3, R136. -/
theorem test_add_hl_sp_1 :
    gives { ready 0xD000 [0x39] with h := 0xFF, l := 0xFF, sp := 0x0001, f := 0x80 } 2
      (fun t => t.h == 0x00 && t.l == 0x00 && t.f == 0xB0 && t.pc == 0xD001) = true := by
  decide
/-- Section 2.3, R137. -/
theorem test_inc_de_1 :
    gives { ready 0xD000 [0x13] with d := 0x00, e := 0xFF } 2
      (fun t => t.d == 0x01 && t.e == 0x00 && t.f == 0x00 && t.pc == 0xD001) = true := by
  decide
/-- Section 2.3, R137. -/
theorem test_inc_sp_1 :
    gives { ready 0xD000 [0x33] with sp := 0xFFFF } 2
      (fun t => t.sp == 0x0000 && t.f == 0x00 && t.pc == 0xD001) = true := by
  decide
/-- Section 2.3, R138. -/
theorem test_dec_bc_1 :
    gives { ready 0xD000 [0x0B] with b := 0x00, c := 0x00 } 2
      (fun t => t.b == 0xFF && t.c == 0xFF && t.f == 0x00 && t.pc == 0xD001) = true := by
  decide
/-- Section 2.3, R139. -/
theorem test_add_sp_e8_1 :
    gives { ready 0xD000 [0xE8, 0x02] with sp := 0xFFF8 } 4
      (fun t => t.sp == 0xFFFA && t.f == 0x00 && t.pc == 0xD002) = true := by
  decide
/-- Section 2.3, R139. -/
theorem test_add_sp_e8_2 :
    gives { ready 0xD000 [0xE8, 0x01] with sp := 0x000F } 4
      (fun t => t.sp == 0x0010 && t.f == 0x20 && t.pc == 0xD002) = true := by
  decide
/-- Section 2.4, R142. -/
theorem test_rlca_1 :
    gives { ready 0xD000 [0x07] with a := 0x85 } 1
      (fun t => t.a == 0x0B && t.f == 0x10 && t.pc == 0xD001) = true := by
  decide
/-- Section 2.4, R142. -/
theorem test_rlca_2 :
    gives { ready 0xD000 [0x07] with a := 0x00, f := 0x80 } 1
      (fun t => t.a == 0x00 && t.f == 0x00 && t.pc == 0xD001) = true := by
  decide
/-- Section 2.4, R143. -/
theorem test_rrca_1 :
    gives { ready 0xD000 [0x0F] with a := 0x3B } 1
      (fun t => t.a == 0x9D && t.f == 0x10 && t.pc == 0xD001) = true := by
  decide
/-- Section 2.4, R144. -/
theorem test_rla_1 :
    gives { ready 0xD000 [0x17] with a := 0x95, f := 0x10 } 1
      (fun t => t.a == 0x2B && t.f == 0x10 && t.pc == 0xD001) = true := by
  decide
/-- Section 2.4, R144. -/
theorem test_rla_2 :
    gives { ready 0xD000 [0x17] with a := 0x80, f := 0x00 } 1
      (fun t => t.a == 0x00 && t.f == 0x10 && t.pc == 0xD001) = true := by
  decide
/-- Section 2.4, R145. -/
theorem test_rra_1 :
    gives { ready 0xD000 [0x1F] with a := 0x81, f := 0x00 } 1
      (fun t => t.a == 0x40 && t.f == 0x10 && t.pc == 0xD001) = true := by
  decide
/-- Section 2.4, R146. -/
theorem test_rlc_b_1 :
    gives { ready 0xD000 [0xCB, 0x00] with b := 0x85 } 2
      (fun t => t.b == 0x0B && t.f == 0x10 && t.pc == 0xD002) = true := by
  decide
/-- Section 2.4, R146. -/
theorem test_rlc_b_2 :
    gives { ready 0xD000 [0xCB, 0x00] with b := 0x00 } 2
      (fun t => t.b == 0x00 && t.f == 0x80 && t.pc == 0xD002) = true := by
  decide
/-- Section 2.4, R147. -/
theorem test_rrc_c_1 :
    gives { ready 0xD000 [0xCB, 0x09] with c := 0x01 } 2
      (fun t => t.c == 0x80 && t.f == 0x10 && t.pc == 0xD002) = true := by
  decide
/-- Section 2.4, R148. -/
theorem test_rl_l_1 :
    gives { ready 0xD000 [0xCB, 0x15] with l := 0x80, f := 0x00 } 2
      (fun t => t.l == 0x00 && t.f == 0x90 && t.pc == 0xD002) = true := by
  decide
/-- Section 2.4, R149. -/
theorem test_rr_a_1 :
    gives { ready 0xD000 [0xCB, 0x1F] with a := 0x01, f := 0x00 } 2
      (fun t => t.a == 0x00 && t.f == 0x90 && t.pc == 0xD002) = true := by
  decide
/-- Section 2.4, R150. -/
theorem test_sla_d_1 :
    gives { ready 0xD000 [0xCB, 0x22] with d := 0x80 } 2
      (fun t => t.d == 0x00 && t.f == 0x90 && t.pc == 0xD002) = true := by
  decide
/-- Section 2.4, R151. -/
theorem test_sra_a_1 :
    gives { ready 0xD000 [0xCB, 0x2F] with a := 0x8A } 2
      (fun t => t.a == 0xC5 && t.f == 0x00 && t.pc == 0xD002) = true := by
  decide
/-- Section 2.4, R151. -/
theorem test_sra_a_2 :
    gives { ready 0xD000 [0xCB, 0x2F] with a := 0xFF } 2
      (fun t => t.a == 0xFF && t.f == 0x10 && t.pc == 0xD002) = true := by
  decide
/-- Section 2.4, R152. -/
theorem test_swap_a_1 :
    gives { ready 0xD000 [0xCB, 0x37] with a := 0xF0, f := 0x10 } 2
      (fun t => t.a == 0x0F && t.f == 0x00 && t.pc == 0xD002) = true := by
  decide
/-- Section 2.4, R152. -/
theorem test_swap_a_2 :
    gives { ready 0xD000 [0xCB, 0x37] with a := 0x00 } 2
      (fun t => t.a == 0x00 && t.f == 0x80 && t.pc == 0xD002) = true := by
  decide
/-- Section 2.4, R153. -/
theorem test_srl_a_1 :
    gives { ready 0xD000 [0xCB, 0x3F] with a := 0xFF } 2
      (fun t => t.a == 0x7F && t.f == 0x10 && t.pc == 0xD002) = true := by
  decide
/-- Section 2.4, R153. -/
theorem test_srl_a_2 :
    gives { ready 0xD000 [0xCB, 0x3F] with a := 0x01 } 2
      (fun t => t.a == 0x00 && t.f == 0x90 && t.pc == 0xD002) = true := by
  decide
/-- Section 2.4, R146. -/
theorem test_rlc_mhl_1 :
    gives { ready 0xD000 [0xCB, 0x06] [(0xC000, 0x81)] with h := 0xC0, l := 0x00 } 4
      (fun t => t.f == 0x10 && t.read 0xC000 == 0x03 && t.pc == 0xD002) = true := by
  decide
/-- Section 2.4, R154. -/
theorem test_bit_7_h_1 :
    gives { ready 0xD000 [0xCB, 0x7C] with h := 0x80, f := 0x10 } 2
      (fun t => t.f == 0x30 && t.pc == 0xD002) = true := by
  decide
/-- Section 2.4, R154. -/
theorem test_bit_4_l_1 :
    gives { ready 0xD000 [0xCB, 0x65] with l := 0xEF, f := 0x00 } 2
      (fun t => t.f == 0xA0 && t.pc == 0xD002) = true := by
  decide
/-- Section 2.4, R154. -/
theorem test_bit_0_mhl_1 :
    gives { ready 0xD000 [0xCB, 0x46] [(0xC000, 0x00)] with h := 0xC0, l := 0x00, f := 0x00 } 3
      (fun t => t.f == 0xA0 && t.pc == 0xD002) = true := by
  decide
/-- Section 2.4, R155. -/
theorem test_res_7_a_1 :
    gives { ready 0xD000 [0xCB, 0xBF] with a := 0x80 } 2
      (fun t => t.a == 0x00 && t.f == 0x00 && t.pc == 0xD002) = true := by
  decide
/-- Section 2.4, R156. -/
theorem test_set_3_mhl_1 :
    gives { ready 0xD000 [0xCB, 0xDE] [(0xC000, 0x00)] with h := 0xC0, l := 0x00 } 4
      (fun t => t.f == 0x00 && t.read 0xC000 == 0x08 && t.pc == 0xD002) = true := by
  decide

/-! Boot ROM, memory and the engine: sections 1, 2.1 and 2.7. -/

/-- After reset, with the bytes `code` at the start of the boot ROM (R200; program P1). -/
def booting (code : List Byte) : State :=
  { State.reset with
    bus := { State.reset.bus with bootRom := Memory.storeAll (fun _ => true) [] (code.zipIdx.map fun x => (x.2, x.1)) }
    host := [⟨false, []⟩] }

/-- S1. -/
theorem test_ld_bc_d16_from_reset :
    gives (booting [0x01, 0xFE, 0xCA]) 3
      (fun t => t.pc == 0x0003 && t.b == 0xCA && t.c == 0xFE && t.cycleCount == 3 && t.mode == .booting) = true := by
  decide
/-- Section 2.1, R107: a nonzero write to 0xFF50 ends Booting. -/
theorem test_ldh_ma8_a_ends_booting :
    gives { booting [0xE0, 0x50] with a := 0x01 } 3
      (fun t => t.read 0xFF50 == 0x01 && !t.bus.bootRomActive && t.mode == .running) = true := by decide
/-- Section 2.1, R107: a write of 0 does not. -/
theorem test_ldh_ma8_a_zero_stays_booting :
    gives { booting [0xE0, 0x50] with a := 0x00 } 3
      (fun t => t.bus.bootRomActive && t.mode == .booting) = true := by decide
/-- Section 2.7, R38: a store to the read-only window has no effect. -/
theorem test_ld_mhl_a_read_only_window :
    gives { ready 0xD000 [0x77] with h := 0x20, l := 0x00, a := 0x55 } 2
      (fun t => t.read 0x2000 == 0xFF && t.bus == (ready 0xD000 [0x77]).bus) = true := by decide
/-- Section 2.7, R38 and R40: the overlay, and the cartridge below it. -/
theorem test_overlay :
    let b : Bus := ⟨true, [], [], [(0x10, 0xAA)], some (List.replicate 0x10 0x00 ++ [0xBB])⟩
    b.read 0x0010 = 0xAA ∧ (b.write 0xFF50 0x01).read 0x0010 = 0xBB ∧ b.read 0x0100 = 0xFF := by decide
/-- Section 2.7, R77 and R39: the fetch wraps and reads the open bus at 0x0000. -/
theorem test_ld_a_d8_fetch_wraps : gives (ready 0xFFFF [0x3E]) 2 (fun t => t.a == 0xFF && t.pc == 0x0001) = true := by
  decide
/-- Section 2.7, R167: the open bus decodes as RST 0x38. -/
theorem test_rst_38_open_bus :
    gives { ready 0x4000 [] with sp := 0xD000 } 4
      (fun t => t.pc == 0x0038 && t.read 0xCFFF == 0x40 && t.read 0xCFFE == 0x01) = true := by decide
/-- Section 2.7, R44: the high byte goes to 0x0000 and is ignored. -/
theorem test_ld_ma16_sp_wraps :
    gives { ready 0xD000 [0x08, 0xFF, 0xFF] with sp := 0x1234 } 5
      (fun t => t.read 0xFFFF == 0x34 && t.read 0x0000 == 0xFF) = true := by decide
/-- R42: a byte of `VOLATILE` that the host changes at the step boundary is what the step reads. -/
theorem test_host_change :
    gives { ready 0xD000 [0xF0, 0x44] with host := [⟨false, [(0xFF44, 0x90), (0xFF50, 0x01)]⟩] } 3
      (fun t => t.a == 0x90 && t.read 0xFF50 == 0x00) = true := by decide
/-- The opcode table's numbering, and the fetch from reset (log entries 3 and 9). -/
theorem test_decodeTableWord :
    decodeTableWord 24 0xCAFE01 = some (.ld_bc_d16 0xCAFE) ∧ decodeTableWord 16 0xCB7C = some .bit_7_h ∧
      decodeTableWord 16 0x50E0 = some (.ldh_ma8_a 0x50) := by decide
theorem test_withFetchWord :
    gives ((booting []).withFetchWord 24 0xCAFE01) 3 (fun t => t.b == 0xCA && t.c == 0xFE && t.pc == 3) = true := by
  decide

/-! Control transfer, section 2.5, in the source's polarity. -/

theorem test_jr_e8_back : gives (ready 0xD100 [0x18, 0xFE]) 3 (fun t => t.pc == 0xD100) = true := by decide
theorem test_jr_e8_wraps : gives (ready 0xFFF0 [0x18, 0x7F]) 3 (fun t => t.pc == 0x0071) = true := by decide
theorem test_jr_nz_taken : gives { ready 0xD200 [0x20, 0x05] with f := 0x80 } 3 (fun t => t.pc == 0xD207) = true := by
  decide
theorem test_jr_nz_not_taken : gives (ready 0xD200 [0x20, 0x05]) 2 (fun t => t.pc == 0xD202) = true := by decide
theorem test_jr_z_taken : gives (ready 0xD200 [0x28, 0x05]) 3 (fun t => t.pc == 0xD207) = true := by decide
theorem test_jr_nc_taken : gives { ready 0xD200 [0x30, 0x05] with f := 0x10 } 3 (fun t => t.pc == 0xD207) = true := by
  decide
theorem test_jr_c_not_taken : gives { ready 0xD200 [0x38, 0x05] with f := 0x10 } 2 (fun t => t.pc == 0xD202) = true := by
  decide
theorem test_jp_a16 : gives (ready 0xD000 [0xC3, 0x50, 0x01]) 4 (fun t => t.pc == 0x0150) = true := by decide
theorem test_jp_c_not_taken :
    gives { ready 0xD000 [0xDA, 0x00, 0x40] with f := 0x10 } 3 (fun t => t.pc == 0xD003) = true := by decide
theorem test_jp_c_taken : gives (ready 0xD000 [0xDA, 0x00, 0x40]) 4 (fun t => t.pc == 0x4000) = true := by decide
/-- Section 2.7, R85. -/
theorem test_jp_nz_not_taken : gives (ready 0xD000 [0xC2, 0x34, 0x12]) 3 (fun t => t.pc == 0xD003) = true := by decide
theorem test_jp_hl : gives { ready 0xD000 [0xE9] with h := 0xC1, l := 0x23 } 1 (fun t => t.pc == 0xC123) = true := by
  decide
theorem test_call_a16 :
    gives { ready 0xD150 [0xCD, 0x00, 0x20] with sp := 0xFFFE } 6
      (fun t => t.pc == 0x2000 && t.sp == 0xFFFC && t.read 0xFFFD == 0xD1 && t.read 0xFFFC == 0x53) = true := by decide
theorem test_call_nz_not_taken :
    gives { ready 0xD000 [0xC4, 0x00, 0x20] with sp := 0xFFFE } 3 (fun t => t.pc == 0xD003 && t.sp == 0xFFFE) = true := by
  decide
theorem test_call_nz_taken :
    gives { ready 0xD000 [0xC4, 0x00, 0x20] with sp := 0xFFFE, f := 0x80 } 6
      (fun t => t.pc == 0x2000 && t.read 0xFFFC == 0x03 && t.read 0xFFFD == 0xD0) = true := by decide
theorem test_ret :
    gives { ready 0xD000 [0xC9] [(0xFFFC, 0x53), (0xFFFD, 0x01)] with sp := 0xFFFC } 4
      (fun t => t.pc == 0x0153 && t.sp == 0xFFFE) = true := by decide
theorem test_ret_nc_taken :
    gives { ready 0xD000 [0xD0] [(0xFFFC, 0x53), (0xFFFD, 0x01)] with sp := 0xFFFC, f := 0x10 } 5
      (fun t => t.pc == 0x0153 && t.sp == 0xFFFE) = true := by decide
theorem test_ret_nc_not_taken :
    gives { ready 0xD000 [0xD0] with sp := 0xFFFC } 2 (fun t => t.pc == 0xD001 && t.sp == 0xFFFC) = true := by decide
theorem test_reti :
    gives { ready 0xD000 [0xD9] [(0xFFFC, 0x53), (0xFFFD, 0x01)] with sp := 0xFFFC } 4
      (fun t => t.pc == 0x0153 && t.sp == 0xFFFE && t.ime && !t.eiInhibit) = true := by decide
/-- R167, at 0xD234 in place of 0x1234. -/
theorem test_rst_28 :
    gives { ready 0xD234 [0xEF] with sp := 0xD000 } 4
      (fun t => t.pc == 0x0028 && t.sp == 0xCFFE && t.read 0xCFFF == 0xD2 && t.read 0xCFFE == 0x35) = true := by decide

/-! System, sections 2.6 and 2.8. -/

theorem test_nop : gives (ready 0xD000 [0x00]) 1 (fun t => t.pc == 0xD001) = true := by decide
theorem test_halt : gives (ready 0xD150 [0x76]) 1 (fun t => t.pc == 0xD151 && t.mode == .halted) = true := by decide
theorem test_halted_idles :
    gives { ready 0xD151 [0x00] with mode := .halted } 1
      (fun t => t.pc == 0xD151 && t.mode == .halted && t.cycleCount == 1) = true := by decide
theorem test_halted_wakes :
    gives { ready 0xD151 [0x00] with mode := .halted, host := [⟨true, []⟩] } 1
      (fun t => t.pc == 0xD152 && t.mode == .running) = true := by decide
theorem test_stop : gives (ready 0xD200 [0x10, 0x00]) 1 (fun t => t.pc == 0xD202 && t.mode == .halted) = true := by
  decide
theorem test_di : gives { ready 0xD000 [0xF3] with ime := true } 1 (fun t => !t.ime) = true := by decide
theorem test_ei : gives (ready 0xD000 [0xFB]) 1 (fun t => t.ime && t.eiInhibit) = true := by decide
theorem test_inhibit_lasts_one_step :
    gives { ready 0xD000 [0x00] with ime := true, eiInhibit := true } 1 (fun t => t.ime && !t.eiInhibit) = true := by
  decide
theorem test_illegal_d3 :
    gives (ready 0xD000 [0xD3]) 1 (fun t => t == { ready 0xD000 [0xD3] with pc := 0xD001, cycleCount := 1, host := [], tick := 1 }) = true := by
  decide
/-- The dispatch row. -/
theorem test_dispatch :
    gives { ready 0xD200 [0x00] [(0xFFFF, 0x05), (0xFF0F, 0x04)] with irqDispatch := true, ime := true, sp := 0xD000 } 5
      (fun t => !t.ime && t.read 0xFF0F == 0x00 && t.read 0xCFFF == 0xD2 && t.read 0xCFFE == 0x00 && t.sp == 0xCFFE &&
        t.pc == 0x0050) = true := by decide
/-- The priority row. -/
theorem test_dispatch_priority :
    gives { ready 0xD200 [0x00] [(0xFFFF, 0x1F), (0xFF0F, 0x12)] with irqDispatch := true, ime := true, sp := 0xD000 } 5
      (fun t => t.pc == 0x0048 && t.read 0xFF0F == 0x10) = true := by decide
/-- The masked row. -/
theorem test_dispatch_masked :
    gives { ready 0xD200 [0x3C] [(0xFFFF, 0x01), (0xFF0F, 0x01)] with irqDispatch := true } 1
      (fun t => t.pc == 0xD201 && t.a == 0x01) = true := by decide
/-- The EI-delay row, its second step. -/
theorem test_dispatch_inhibited :
    gives { ready 0xD200 [0x00] [(0xFFFF, 0x01), (0xFF0F, 0x01)] with irqDispatch := true, ime := true, eiInhibit := true } 1
      (fun t => t.pc == 0xD201) = true := by decide
/-- HALT wake with IME = 0. -/
theorem test_halted_wakes_without_ime :
    gives { ready 0xD200 [0x00] [(0xFFFF, 0x01), (0xFF0F, 0x01)] with irqDispatch := true, mode := .halted } 1
      (fun t => t.pc == 0xD201 && t.mode == .running) = true := by decide
/-- PREFIX CB on a selector runs the extended entry (R173, R152). -/
theorem test_prefix_cb :
    exec (.prefix_cb 0x37) { State.reset with a := 0x12 } = .next { State.reset with a := 0x21 } := rfl

/-! ### Witnesses: the hypotheses of the obligations can be met -/

theorem reset_memory_wf :
    Memory.wf State.reset.bus.ram ∧ Memory.wf State.reset.bus.io ∧ Memory.wf State.reset.bus.bootRom := by decide

theorem ready_wf (pc : Nat) (code : List Byte) (mem : List Host.Cell) : (ready pc code mem).bus.wf where
  ram := Memory.storeAll_wf _ (by decide) _
  io := Memory.storeAll_wf _ (by decide) _
  bootRom := by show Memory.wf []; decide
  ramAt := Memory.storeAll_keys _ (by simp) _
  ioAt := Memory.storeAll_keys _ (by simp) _
  bootRomAt := by show ∀ x ∈ [], _; simp

theorem booting_wf : (booting [0x00]).bus.wf where
  ram := by decide
  io := by decide
  bootRom := by decide
  ramAt := by decide
  ioAt := by decide
  bootRomAt := by decide

theorem ready_inv (pc : Nat) (code : List Byte) (mem : List Host.Cell) : (ready pc code mem).Inv where
  lowNibble := by show (0 : Byte) &&& 0x0F = 0; decide
  busForm := ready_wf _ _ _
  runningUnmapped := fun _ => rfl

/-- The outcome of a concrete step, to be compared. -/
def ran (s : State) : State :=
  match step s with
  | .next t => t
  | _ => s

/-- DecodeOfEncodeIsIdentity, ExecAgreesWithTheTableRecord, and the two clauses of TableEntriesPassTheSelfCheck. -/
theorem witness_wellFormed :
    (Instr.ld_bc_d16 0xFFFF).wellFormed = true ∧ (Instr.ld_bc_d16 0xFFFF).record.opcode = .base 0x01 ∧
    Instr.set_7_a.wellFormed = true ∧ Instr.set_7_a.record.opcode = .cb 0xFF := by decide

/-- CostsOfTheTables: a conditional call, a conditional jump, an unconditional one, no transfer. -/
theorem witness_TakenExtra :
    (Instr.call_c_a16 0).record.lhs = .cond .carry ∧ (Instr.call_c_a16 0).record.kind = .call ∧
    (Instr.jr_nz_e8 0).record.lhs = .cond .nzero ∧ (Instr.jr_e8 0).record.lhs = .cond .none ∧
    Instr.nop.record.lhs = .none := by decide

/-- StepRunsTheDecodedInstruction, in Running. -/
theorem witness_StepRuns :
    ∃ s s1 t : State, ∃ i : Instr,
      (s.boundary.mode = .halted → s.boundary.wakes s.hostInput.irqPending = true) ∧
      s1 = s.boundary.awake ∧ s1.dispatchDue = false ∧
      i = decode3 (s1.read s1.pc) (s1.read (s1.pc + 1)) (s1.read (s1.pc + 2)) ∧
      exec i { s1 with eiInhibit := false, pc := s1.pc + BitVec.ofNat 16 i.length } = .next t :=
  ⟨ready 0xD000 [0x3C], _, _, .inc_a, by decide, rfl, by decide, by decide, rfl⟩

/-- StepRunsTheDecodedInstruction, out of Halted. -/
theorem witness_StepRuns_woken :
    ∃ s s1 t : State, ∃ i : Instr, s.mode = .halted ∧
      (s.boundary.mode = .halted → s.boundary.wakes s.hostInput.irqPending = true) ∧
      s1 = s.boundary.awake ∧ s1.dispatchDue = false ∧
      i = decode3 (s1.read s1.pc) (s1.read (s1.pc + 1)) (s1.read (s1.pc + 2)) ∧
      exec i { s1 with eiInhibit := false, pc := s1.pc + BitVec.ofNat 16 i.length } = .next t :=
  ⟨{ ready 0xD000 [0x3C] with mode := .halted, host := [⟨true, []⟩] }, _, _, .inc_a, rfl, by decide, rfl, by decide,
    by decide, rfl⟩

/-- HaltedStepIdles, without and with the option. -/
theorem witness_HaltedStepIdles :
    (let s := { ready 0xD000 [0x00] with mode := .halted }
     s.mode = .halted ∧ s.boundary.wakes s.hostInput.irqPending = false) ∧
    (let s := { ready 0xD000 [0x00] [(0xFFFF, 0x01)] with mode := .halted, irqDispatch := true }
     s.mode = .halted ∧ s.boundary.wakes s.hostInput.irqPending = false) := by decide

/-- WakeAndDispatchConditions: each clause. -/
theorem witness_WakeAndDispatch :
    (ready 0xD000 []).irqDispatch = false ∧ (ready 0xD000 []).mode ≠ .halted ∧
    (let s := { ready 0xD000 [] [(0xFFFF, 0x10), (0xFF0F, 0x10)] with irqDispatch := true, ime := true }
     s.irqDispatch = true ∧ s.wakes false = true ∧ s.dispatchDue = true) ∧
    { ready 0xD000 [] with mode := .halted }.mode = .halted := by decide

/-- StepCostIsCharged, with the dearest instruction, CALL. -/
theorem witness_StepCost : gives { ready 0xD150 [0xCD, 0x00, 0x20] with sp := 0xFFFE } 6 (fun _ => true) = true := by
  decide

/-- ModeTransitions, StepKeepsTheInvariant and ConstantsOfTheMachine: from Running, into Running. -/
theorem witness_step_running :
    (ready 0xD000 [0x00]).Inv ∧ step (ready 0xD000 [0x00]) = .next (ran (ready 0xD000 [0x00])) ∧
    (ready 0xD000 [0x00]).mode = .running ∧ (ran (ready 0xD000 [0x00])).mode = .running ∧
    (ready 0xD000 [0x00]).bus.bootRomActive = false :=
  ⟨ready_inv _ _ _, rfl, by decide, by decide, by decide⟩

/-- ModeTransitions: into Halted. -/
theorem witness_step_into_halted :
    (ready 0xD000 [0x76]).Inv ∧ step (ready 0xD000 [0x76]) = .next (ran (ready 0xD000 [0x76])) ∧
    (ready 0xD000 [0x76]).mode ≠ .halted ∧ (ran (ready 0xD000 [0x76])).mode = .halted :=
  ⟨ready_inv _ _ _, rfl, by decide, by decide⟩

/-- ModeTransitions: Booting, without a dispatch. -/
theorem witness_step_booting :
    (booting [0x00]).Inv ∧ step (booting [0x00]) = .next (ran (booting [0x00])) ∧ (booting [0x00]).mode = .booting ∧
    (ran (booting [0x00])).mode = .booting ∧ (booting [0x00]).boundary.dispatchDue = false :=
  ⟨⟨by decide, booting_wf, by decide⟩, rfl, by decide, by decide, by decide⟩

/-- The bus of `booting`, with interrupt source 2 pending. -/
def pendingBus : Bus := { (booting [0x00]).bus with ram := [(0xFFFF, 0x04)], io := [(0xFF0F, 0x04)] }

theorem pendingBus_wf : pendingBus.wf :=
  { booting_wf with
    ram := ⟨by decide, by decide⟩
    io := ⟨by decide, by decide⟩
    ramAt := by decide
    ioAt := by decide }

/-- A state of mode `m` with an interrupt due, whose pushes store `v` at 0xFF50. -/
def dispatching (v : Byte) (m : Mode) : State :=
  { State.reset with
    mode := m
    sp := 0xFF51
    pc := cat v 0x00
    bus := pendingBus
    irqDispatch := true
    ime := true
    host := [⟨false, []⟩] }

/-- ModeTransitions: a dispatch in Booting that unmaps the boot ROM leaves the mode (log entry 8), and one out of Halted. -/
theorem witness_step_dispatching :
    (dispatching 0x01 .booting).Inv ∧ step (dispatching 0x01 .booting) = .next (ran (dispatching 0x01 .booting)) ∧
    (dispatching 0x01 .booting).boundary.dispatchDue = true ∧ (ran (dispatching 0x01 .booting)).mode = .booting ∧
    (ran (dispatching 0x01 .booting)).bus.bootRomActive = false ∧
    step (dispatching 0x00 .halted) = .next (ran (dispatching 0x00 .halted)) ∧
    (dispatching 0x00 .halted).boundary.dispatchDue = true ∧ (ran (dispatching 0x00 .halted)).mode = .booting :=
  ⟨⟨by decide, pendingBus_wf, by decide⟩, rfl, by decide, by decide, by decide, rfl, by decide, by decide⟩

/-- ModeTransitions: out of Halted to Booting while the boot ROM is mapped, to Running where it is not, and a woken step that
runs HALT again. -/
theorem witness_step_woken :
    (∀ code ∈ [[0x00], [0x76]],
      let s := { booting code with mode := .halted, host := [⟨true, []⟩] }
      s.mode = .halted ∧ s.boundary.wakes s.hostInput.irqPending = true ∧ s.boundary.dispatchDue = false ∧
        (ran s).bus.bootRomActive = true ∧ (ran s).mode = if code = [0x76] then .halted else .booting) ∧
    (let s := { ready 0xD000 [0x00] with mode := .halted, host := [⟨true, []⟩] }
     s.mode = .halted ∧ s.boundary.wakes s.hostInput.irqPending = true ∧ (ran s).mode = .running) := by decide

/-- The draws of a reset. -/
def drawn : ResetInput where
  bootRom := [(0x0000, 0x31), (0x00FF, 0x50), (0x0100, 0x55)]
  cart := some [0xC3]
  irqDispatch := true
  a := 0x01
  f := 0xBF
  b := 0x00
  c := 0x13
  d := 0x00
  e := 0xD8
  h := 0x01
  l := 0x4D
  sp := 0xFFFE
  memory := [(0xC000, 0x66), (0xC000, 0x77), (0xFF44, 0x90), (0x0000, 0x11), (0x8000, 0x22), (0xFFFF, 0x1F)]
  host := []

/-- ResetState and ResetSatisfiesTheInvariant: a draw that sets every bit of F keeps its high nibble; RAM at both its ends,
in `VOLATILE` and where the draw names no byte; the ends of the overlay, and the cartridge window above it. -/
theorem witness_construct :
    (construct drawn).f = 0xB0 ∧ (construct drawn).read 0xC000 = 0x77 ∧ (construct drawn).read 0xFF44 = 0x90 ∧
    0x7FFF < (0x8000 : Word).toNat ∧ (construct drawn).read 0x8000 = 0x22 ∧ (construct drawn).read 0xFFFF = 0x1F ∧
    (construct drawn).read 0xC001 = 0x00 ∧ lastByte drawn.memory 0xC001 = none ∧
    (construct drawn).read 0x0000 = 0x31 ∧ (construct drawn).read 0x00FF = 0x50 ∧ (0x00FF : Word).toNat ≤ 0x00FF ∧
    (construct drawn).read 0x0100 = 0xFF ∧ (construct drawn).read 0x7FFF = 0xFF ∧
    (construct drawn).bus.bootRom = [(0x0000, 0x31), (0x00FF, 0x50)] := by decide

/-- ConstructionFailsWithoutARequiredCartridge: both cases. -/
theorem witness_constructOrFail :
    (true = true ∧ { drawn with cart := none }.cart = none) ∧ ¬(true = true ∧ drawn.cart = none) ∧
    0x00FF < (0x0100 : Word).toNat ∧ (0x7FFF : Word).toNat ≤ 0x7FFF := by decide

/-- ConditionPolarity: an opcode of each of the four transfers. -/
theorem witness_ConditionPolarity :
    (0x20 : Byte) ∈ [op (0x20 + 8 * (0 : Fin 4)), op (0xC0 + 8 * (0 : Fin 4)), op (0xC2 + 8 * (0 : Fin 4)), op (0xC4 + 8 * (0 : Fin 4))] ∧
    (0xDC : Byte) ∈ [op (0x20 + 8 * (3 : Fin 4)), op (0xC0 + 8 * (3 : Fin 4)), op (0xC2 + 8 * (3 : Fin 4)), op (0xC4 + 8 * (3 : Fin 4))] := by
  decide

/-- BusReads: the last address of the overlay, the first of the cartridge above it, the ends of the cartridge window,
the image's last byte and the first past it, an absent image, and the ends of `VOLATILE` and of RAM. -/
theorem witness_BusReads :
    let b : Bus := ⟨true, [(0x8000, 0x01), (0xFF50, 0x02), (0xFF80, 0x03), (0xFFFF, 0x04)],
      [(0xFF00, 0x05), (0xFF7F, 0x06)], [(0xFF, 0x07)], some (List.replicate 0x101 0x08)⟩
    b.read 0x00FF = 0x07 ∧ b.read 0x0100 = 0x08 ∧ b.read 0x0101 = 0xFF ∧ b.read 0x7FFF = 0xFF ∧ b.read 0x8000 = 0x01 ∧
    b.read 0xFF00 = 0x05 ∧ b.read 0xFF50 = 0x02 ∧ b.read 0xFF7F = 0x06 ∧ b.read 0xFF80 = 0x03 ∧ b.read 0xFFFF = 0x04 ∧
    { b with cart := none, bootRomActive := false }.read 0x0000 = 0xFF := by decide

/-- BusWrites and BootDisableWrite: a bus in form, an address of the window and one just above it. -/
theorem witness_BusWrites :
    (booting [0x00]).bus.wf ∧ (0x7FFF : Word).toNat ≤ 0x7FFF ∧ 0x7FFF < (0x8000 : Word).toNat ∧
    ((booting [0x00]).bus.write 0x8000 0x01).bootRomActive = (booting [0x00]).bus.bootRomActive ∧
    ((booting [0x00]).bus.write 0xFF50 0x01).bootRomActive = false ∧ (0xFF51 : Word) ≠ 0xFF50 :=
  ⟨booting_wf, by decide, by decide, by decide, by decide, by decide⟩

/-- HostChangesOnlyVolatileBytes: a list with two cells for the last byte of `VOLATILE`, one for the first and one for the
address past the end; a byte that no cell names; and the two addresses that the host may not change. -/
theorem witness_HostChanges :
    let s := { ready 0xD000 [] with host := [⟨false, [(0xFF7F, 0x12), (0xFF80, 0x55), (0xFF00, 0x34), (0xFF7F, 0x56)]⟩] }
    s.bus.wf ∧
    (0xFF00 ≤ (0xFF7F : Word).toNat ∧ (0xFF7F : Word).toNat ≤ 0xFF7F ∧ (0xFF7F : Word) ≠ 0xFF50) ∧
    s.boundary.read 0xFF7F = 0x56 ∧ s.boundary.read 0xFF00 = 0x34 ∧
    lastByte s.hostInput.changes 0xFF4F = none ∧ s.boundary.read 0xFF4F = s.read 0xFF4F ∧
    ¬(0xFF00 ≤ (0xFF80 : Word).toNat ∧ (0xFF80 : Word).toNat ≤ 0xFF7F ∧ (0xFF80 : Word) ≠ 0xFF50) ∧
    s.boundary.read 0xFF80 = s.read 0xFF80 ∧
    ¬(0xFF00 ≤ (0xFF50 : Word).toNat ∧ (0xFF50 : Word).toNat ≤ 0xFF7F ∧ (0xFF50 : Word) ≠ 0xFF50) :=
  ⟨ready_wf _ _ _, by decide, by decide, by decide, by decide, by decide, by decide, by decide, by decide⟩

/-- SixteenBitAccessesAreLittleEndian: the ends of RAM, where one byte or both lie above the read-only window. -/
theorem witness_SixteenBit :
    (ready 0xD000 []).bus.wf ∧ 0x7FFF < (0x7FFF + 1 : Word).toNat ∧ ¬0x7FFF < (0xFFFF + 1 : Word).toNat ∧
    ((ready 0xD000 []).write16 0xFFFF 0x1234).read 0xFFFF = 0x34 ∧
    ((ready 0xD000 []).write16 0x7FFF 0x1234).read 0x8000 = 0x12 ∧
    ((ready 0xD000 []).write16 0x8000 0x1234).read16 0x8000 = 0x1234 :=
  ⟨ready_wf _ _ _, by decide, by decide, by decide, by decide, by decide⟩

/-- PopUndoesPush: the lowest SP it allows, and SP = 0. -/
theorem witness_PopUndoesPush :
    let s := { ready 0xD000 [] with sp := 0x8002 }
    s.bus.wf ∧ 0x7FFF < (s.sp - 1).toNat ∧ 0x7FFF < (s.sp - 2).toNat ∧
    0x7FFF < ((0x0000 : Word) - 1).toNat ∧ 0x7FFF < ((0x0000 : Word) - 2).toNat :=
  ⟨ready_wf _ _ _, by decide, by decide, by decide, by decide⟩

/-- The frames and FlagsFollowTheTableColumn: a form that stores nothing, one that stores a byte, and the addresses
outside. -/
theorem witness_frames :
    (ready 0xD000 []).bus.wf ∧ Instr.cp_a_b.wellFormed = true ∧ storedAt Instr.cp_a_b.record (ready 0xD000 []) = [] ∧
    (∃ t, exec .cp_a_b (ready 0xD000 []) = .next t) ∧
    storedAt Instr.ld_mhl_a.record { ready 0xD000 [] with h := 0xC0 } = [0xC000] ∧
    storedAt (Instr.ld_ma16_sp 0xC0FF).record (ready 0xD000 []) = [0xC0FF, 0xC100] ∧
    Reg8.b ∉ writtenReg8 Instr.cp_a_b.record ∧ writesSp Instr.cp_a_b.record = false ∧
    transfers Instr.cp_a_b.record.kind = false :=
  ⟨ready_wf _ _ _, rfl, rfl, ⟨_, rfl⟩, by decide, by decide, by decide, by decide, by decide⟩

/-- ControlFrameOfEveryInstruction: an instruction that is none of the five. -/
theorem witness_ControlFrame :
    Instr.nop.record.kind ≠ .halt ∧ Instr.nop.record.kind ≠ .stop ∧ Instr.nop.record.kind ≠ .di ∧
    Instr.nop.record.kind ≠ .ei ∧ Instr.nop.record.kind ≠ .reti ∧ ∃ t, exec .nop State.reset = .next t :=
  ⟨by decide, by decide, by decide, by decide, by decide, ⟨_, rfl⟩⟩

/-- AdditionAndItsFlags, SubtractionAndItsFlags and LogicAndItsFlags: the first register form, the (HL) form, the last
register form and the immediate form, for the first and the last operation. -/
theorem witness_AluForm (s : State) :
    AluForm 0 0x80 0x00 s s.b 1 1 ∧ AluForm 0 0x86 0x00 s (s.read (cat s.h s.l)) 1 2 ∧ AluForm 0 0xC6 0x42 s 0x42 2 2 ∧
    AluForm 1 0x8F 0x00 s s.a 1 1 ∧ AluForm 2 0x90 0x00 s s.b 1 1 ∧ AluForm 3 0x9F 0x00 s s.a 1 1 ∧
    AluForm 4 0xA7 0x00 s s.a 1 1 ∧ AluForm 5 0xA8 0x00 s s.b 1 1 ∧ AluForm 6 0xF6 0xFF s 0xFF 2 2 ∧
    AluForm 7 0xBF 0x00 s s.a 1 1 ∧ AluForm 7 0xFE 0xFF s 0xFF 2 2 :=
  ⟨.inl ⟨0, rfl, rfl, rfl, rfl⟩, .inl ⟨6, rfl, rfl, rfl, rfl⟩, .inr ⟨rfl, rfl, rfl, rfl⟩, .inl ⟨7, rfl, rfl, rfl, rfl⟩,
    .inl ⟨0, rfl, rfl, rfl, rfl⟩, .inl ⟨7, rfl, rfl, rfl, rfl⟩, .inl ⟨7, rfl, rfl, rfl, rfl⟩, .inl ⟨0, rfl, rfl, rfl, rfl⟩,
    .inr ⟨rfl, rfl, rfl, rfl⟩, .inl ⟨7, rfl, rfl, rfl, rfl⟩, .inr ⟨rfl, rfl, rfl, rfl⟩⟩

/-- DecimalAdjustAfterAddition and DecimalAdjustAfterSubtraction: 99 with 01, and 00 with 99. -/
theorem witness_DecimalAdjust :
    isBcd 0x99 ∧ isBcd 0x01 ∧ isBcd 0x00 ∧
    (∃ t u, exec (decode3 0xC6 0x01 0) { State.reset with a := 0x99 } = .next t ∧ exec (decode3 0x27 0x01 0) t = .next u) ∧
    (∃ t u, exec (decode3 0xD6 0x99 0) State.reset = .next t ∧ exec (decode3 0x27 0x99 0) t = .next u) :=
  ⟨⟨by decide, by decide⟩, ⟨by decide, by decide⟩, ⟨by decide, by decide⟩, ⟨_, _, rfl, rfl⟩, ⟨_, _, rfl, rfl⟩⟩

/-- Jumps, CallsAndRestarts and Returns: each condition taken and not taken. -/
theorem witness_ccTaken :
    (∀ cc, ccTaken { State.reset with f := 0xF0 } cc = ![true, false, true, false] cc) ∧
    ∀ cc, ccTaken State.reset cc = ![false, true, false, true] cc := by decide

/-- IllegalOpcodesAreNoOps. -/
theorem witness_Illegal :
    (0xFD : Byte) ∈ ([0xD3, 0xDB, 0xDD, 0xE3, 0xE4, 0xEB, 0xEC, 0xED, 0xF4, 0xFC, 0xFD] : List Byte) := by decide

/-- InterruptDispatch: the first and the last source. -/
theorem witness_InterruptDispatch :
    (let s := { ready 0xD000 [] [(0xFFFF, 0xFF), (0xFF0F, 0xFF)] with irqDispatch := true, ime := true }
     let p := s.boundary.read 0xFFFF &&& s.boundary.read 0xFF0F &&& 0x1F
     s.irqDispatch = true ∧ s.ime = true ∧ s.eiInhibit = false ∧ p.getLsbD (0 : Fin 5) = true ∧
       ∀ k < (0 : Fin 5), p.getLsbD k = false) ∧
    (let s := { ready 0xD000 [] [(0xFFFF, 0xFF), (0xFF0F, 0x10)] with irqDispatch := true, ime := true }
     let p := s.boundary.read 0xFFFF &&& s.boundary.read 0xFF0F &&& 0x1F
     p.getLsbD (4 : Fin 5) = true ∧ ∀ k < (4 : Fin 5), p.getLsbD k = false) := by decide

/-- InterruptDispatch, in Booting and out of Halted: source 2, in the states of `dispatching`. -/
theorem witness_InterruptDispatch_modes : ∀ m ∈ [Mode.booting, Mode.halted],
    let s := dispatching 0x01 m
    let p := s.boundary.read 0xFFFF &&& s.boundary.read 0xFF0F &&& 0x1F
    s.mode = m ∧ s.irqDispatch = true ∧ s.ime = true ∧ s.eiInhibit = false ∧ p.getLsbD (2 : Fin 5) = true ∧
      ∀ k < (2 : Fin 5), p.getLsbD k = false := by decide

/-- EiDiAndRetiTiming: EI with an interrupt pending and a NOP after it, whose interrupt the check after the NOP finds due;
EI with EI after it, and with DI after it; DI; and RETI. -/
theorem witness_EiDiAndReti :
    (let s := { ready 0xD000 [0xFB, 0x00] [(0xFFFF, 0x01), (0xFF0F, 0x01)] with irqDispatch := true, host := [⟨false, []⟩, ⟨false, []⟩, ⟨false, []⟩] }
     (s.mode = .halted → s.boundary.wakes s.hostInput.irqPending = true) ∧ s.boundary.dispatchDue = false ∧
       s.boundary.fetch = .ei ∧ step s = .next (ran s) ∧ (ran s).boundary.fetch ≠ .ei ∧ (ran s).boundary.fetch ≠ .di ∧
       (ran (ran s)).boundary.dispatchDue = true) ∧
    (ran { ready 0xD000 [0xFB, 0xFB] with host := [⟨false, []⟩] }).boundary.fetch = .ei ∧
    (ran { ready 0xD000 [0xFB, 0xF3] with host := [⟨false, []⟩] }).boundary.fetch = .di ∧
    (let s := { ready 0xD000 [0xF3] [(0xFFFF, 0x01), (0xFF0F, 0x01)] with irqDispatch := true, ime := true, eiInhibit := true }
     (s.mode = .halted → s.boundary.wakes s.hostInput.irqPending = true) ∧ s.boundary.dispatchDue = false ∧
       s.boundary.fetch = .di ∧ step s = .next (ran s)) ∧
    (let s := ready 0xD000 [0xD9]
     (s.mode = .halted → s.boundary.wakes s.hostInput.irqPending = true) ∧ s.boundary.dispatchDue = false ∧
       s.boundary.fetch = .reti ∧ step s = .next (ran s)) :=
  ⟨⟨by decide, by decide, by decide, rfl, by decide, by decide, by decide⟩, by decide, by decide,
    ⟨by decide, by decide, by decide, rfl⟩, ⟨by decide, by decide, by decide, rfl⟩⟩

end Sys2Proof.Tests
end

namespace Sys2Proof.Machine

/-! ### Registers, flags and reset -/

/-- AF as a view: F takes the low byte with its low nibble cleared (spec/10_state.md R14, R16). -/
theorem cat_hi_maskedLo (v : Word) : cat (hi v) (lo v &&& 0xF0) = v &&& 0xFFF0 := by
  calc cat (hi v) (lo v &&& 0xF0)
    _ = cat (hi v &&& 0xFF) (lo v &&& 0xF0) := by rw [show hi v &&& 0xFF = hi v from BitVec.and_allOnes]
    _ = cat (hi v) (lo v) &&& cat 0xFF 0xF0 := BitVec.and_append.symm
    _ = v &&& 0xFFF0 := by rw [cat_hi_lo]; rfl

/-- Settles O20: a pair is `cat` of its two bytes, so the views are `hi_cat`, `lo_cat`, `cat_hi_lo` and `cat_toNat`. -/
theorem pairsAreViewsOfTheirBytes : Obligations.PairsAreViewsOfTheirBytes := by
  intro s v x
  refine ⟨rfl, rfl, cat_hi_lo v, rfl, rfl, cat_hi_lo v, rfl, rfl, cat_hi_lo v, rfl, rfl, cat_hi_maskedLo v, ?_⟩
  exact ⟨cat_toNat _ _, cat_toNat _ _, cat_toNat _ _, cat_toNat _ _, cat_toNat _ _, cat_toNat _ _, cat_toNat _ _,
    cat_toNat _ _, cat_toNat _ _, cat_toNat _ _, cat_toNat _ _⟩

/-- `flags(z, n, h, c)` as a number: the flags are bits 7 to 4 (spec/10_state.md R17, spec/42_alu8.md R118). -/
theorem flagByte_toNat (z n h c : Bool) :
    (flagByte z n h c).toNat = 128 * bit z + 64 * bit n + 32 * bit h + 16 * bit c := by
  revert z n h c; decide

/-- Settles O21: `flagByte_toNat` places the flags, and a write of them is the record update that R118 gives. -/
theorem flagsOfF : Obligations.FlagsOfF := by
  intro s z n h c z' n' h' c'
  exact ⟨flagByte_toNat z n h c, rfl, rfl, rfl, rfl, rfl⟩

theorem Memory.wf_nil : Memory.wf [] := ⟨.nil, by simp⟩

/-- The addresses of a boot ROM image, as `construct` keeps them (spec/70_reset_and_hazards.md R192). -/
def inBootRom (n : Nat) : Bool := decide (n ≤ Config.bootEnd)

/-- The bus of a constructed state is in form, whatever lists of cells the host and the draws give. -/
theorem construct_bus_wf (x : ResetInput) : (construct x).bus.wf where
  ram := Memory.storeAll_wf isPlainRam Memory.wf_nil x.memory
  io := Memory.storeAll_wf isVolatile Memory.wf_nil x.memory
  bootRom := Memory.storeAll_wf inBootRom Memory.wf_nil x.bootRom
  ramAt := Memory.storeAll_keys isPlainRam (by simp) x.memory
  ioAt := Memory.storeAll_keys isVolatile (by simp) x.memory
  bootRomAt y hy := of_decide_eq_true (Memory.storeAll_keys inBootRom (by simp) x.bootRom y hy)

theorem construct_inv (x : ResetInput) : (construct x).Inv where
  lowNibble := lowNibble_masked x.f
  busForm := construct_bus_wf x
  runningUnmapped h := Mode.noConfusion h

/-- `State.reset` is the constructed state of the zero draw, with blank images (log entries 1 to 3). -/
theorem reset_eq_construct : State.reset = construct
    { bootRom := [], cart := none, irqDispatch := false, a := 0, f := 0, b := 0, c := 0, d := 0, e := 0, h := 0, l := 0,
      sp := 0, memory := [], host := [] } := rfl

/-- Settles O16: every constructed state meets the invariant, and `State.reset` is one of them. -/
theorem resetSatisfiesTheInvariant : Obligations.ResetSatisfiesTheInvariant :=
  ⟨reset_eq_construct ▸ construct_inv _, construct_inv⟩

/-! ### The control part of the state -/

/-- The part of the state that only HALT, STOP, DI, EI and RETI write (spec/10_state.md R23 to R25). -/
structure Control where
  mode : Mode
  ime : Bool
  eiInhibit : Bool

def State.control (s : State) : Control := ⟨s.mode, s.ime, s.eiInhibit⟩

/-- The control part after an execute phase of kind `k` (spec/40_engine.md R88, spec/10_state.md R24, R25). -/
def Control.after (c : Control) : Kind → Control
  | .halt | .stop => { c with mode := .halted }
  | .di => { c with ime := false }
  | .ei => { c with ime := true, eiInhibit := true }
  | .reti => { c with ime := true }
  | _ => c

@[simp] theorem State.control_write (s : State) (x : Word) (v : Byte) : (s.write x v).control = s.control := rfl
@[simp] theorem State.control_flags (s : State) (z n h c : Option Bool) : (s.flags z n h c).control = s.control := rfl
@[simp] theorem State.control_setReg16 (s : State) (rr : Reg16) (v : Word) :
    (s.setReg16 rr v).control = s.control := by simp [State.control]
@[simp] theorem control_wr8 (s : State) (x : Arg) (v : Byte) : (wr8 x v s).control = s.control := by simp [State.control]
@[simp] theorem control_postAccess (s : State) (x : Arg) : (postAccess x s).control = s.control := by
  simp [State.control]

/-- A relative jump writes PC alone (spec/45_control.md R157, R158). -/
theorem jr_eq (x y : Arg) (s : State) :
    jr x y s = { s with pc := if taken x s then s.pc + sext16 (rd8 y s) else s.pc } := by
  unfold jr; split <;> rfl

/-- An absolute jump writes PC alone (spec/45_control.md R159, R160). -/
theorem jp_eq (x y : Arg) (s : State) : jp x y s = { s with pc := if taken x s then rd16 y s else s.pc } := by
  unfold jp; split <;> rfl

@[simp] theorem control_rotate (g : Byte → Byte × Bool) (t : Arg) (s : State) :
    (rotate g t s).control = s.control := by simp [rotate]

/-- The control part after the execute phase of a record, whatever the record is. -/
theorem executeRecord_control (r : Record) (s : State) :
    (executeRecord r s).control = s.control.after r.kind := by
  unfold executeRecord
  cases r.kind <;> dsimp only [Control.after]
  case nop | illegal | halt | stop | di | ei | reti | rst => rfl
  case adc | sub | sbc | and | xor | or | cp | rlca | rrca | rla | rra | daa | cpl | scf | ccf | bit => rfl
  case ld =>
    split
    · simp [ldHlSp]
    · simp [ld16]
    · rfl
    · simp [ld8]
  case inc =>
    split
    · simp [inc16]
    · simp [inc8]
  case dec =>
    split
    · simp [dec16]
    · simp [dec8]
  case add =>
    split
    · simp [addHl]
    · rfl
    · rfl
  case jr => rw [jr_eq]; rfl
  case jp =>
    split
    · rfl
    · rw [jp_eq]; rfl
  case call => unfold call; split <;> rfl
  case ret => unfold ret; split <;> rfl
  case push => split <;> rfl
  case pop =>
    split
    · exact State.control_setReg16 _ _ _
    · rfl
  case rlc | rrc | rl | rr | sla | sra | swap | srl => exact control_rotate _ _ s
  case res | set => exact control_wr8 s _ _

/-- What the extended instruction of a selector does: a rotate or shift, a bit test, or a byte written back
(spec/44_rotate_shift_bit.md R140). -/
theorem extended_cases (sel : Byte) (s : State) :
    (∃ g t, extended sel s = rotate g t s) ∨ (∃ t b, extended sel s = bitTest t b s) ∨
    ∃ t v, extended sel s = wr8 t v s := by
  unfold extended
  dsimp only
  split
  case h_9 => exact .inr (.inl ⟨_, _, rfl⟩)
  case h_10 | h_11 => exact .inr (.inr ⟨_, _, rfl⟩)
  all_goals exact .inl ⟨_, _, rfl⟩

theorem extended_control (sel : Byte) (s : State) : (extended sel s).control = s.control := by
  obtain ⟨_, _, h⟩ | ⟨_, _, h⟩ | ⟨_, _, h⟩ := extended_cases sel s <;> rw [h]
  · exact control_rotate _ _ s
  · rfl
  · exact control_wr8 s _ _

theorem Keeps.extended (sel : Byte) (s : State) : Keeps s (extended sel s) := by
  obtain ⟨_, _, h⟩ | ⟨_, _, h⟩ | ⟨_, _, h⟩ := extended_cases sel s <;> rw [h]
  · exact .rotate _ _ s
  · exact .flags s _ _ _ _
  · exact .wr8 s _ _

/-- Only the entry of 0xCB is not well formed (spec/30_encoding.md R67). -/
theorem eq_prefix_cb_of_not_wellFormed {i : Instr} (h : i.wellFormed ≠ true) : ∃ sel, i = .prefix_cb sel := by
  unfold Instr.wellFormed at h
  split at h
  · exact ⟨_, rfl⟩
  · exact absurd rfl h

/-- What every instruction does, that of 0xCB among them: it keeps the fixed base and the counters, and writes the
control part as its kind says. -/
theorem exec_spec {i : Instr} {s t : State} (h : exec i s = .next t) :
    Keeps s t ∧ t.control = s.control.after i.record.kind := by
  by_cases hw : i.wellFormed = true
  · rw [exec_eq_executeRecord hw] at h
    cases h
    exact ⟨executeRecord_keeps _ s, executeRecord_control _ s⟩
  · obtain ⟨sel, rfl⟩ := eq_prefix_cb_of_not_wellFormed hw
    cases h
    exact ⟨.extended sel s, extended_control sel s⟩

theorem Control.after_mode (c : Control) {k : Kind} (hh : k ≠ .halt) (hs : k ≠ .stop) : (c.after k).mode = c.mode := by
  cases k
  case halt | stop => contradiction
  all_goals rfl

theorem Control.after_ime (c : Control) {k : Kind} (hd : k ≠ .di) (he : k ≠ .ei) (hr : k ≠ .reti) :
    (c.after k).ime = c.ime := by
  cases k
  case di | ei | reti => contradiction
  all_goals rfl

theorem Control.after_eiInhibit (c : Control) {k : Kind} (he : k ≠ .ei) : (c.after k).eiInhibit = c.eiInhibit := by
  cases k
  case ei => contradiction
  all_goals rfl

/-- Settles O32: the control part follows the kind (`executeRecord_control`), and the rest is in `Keeps`. -/
theorem controlFrameOfEveryInstruction : Obligations.ControlFrameOfEveryInstruction := by
  intro i s t h
  obtain ⟨keeps, control⟩ := exec_spec h
  refine ⟨fun hh hs => ?_, fun hd he hr => ?_, fun he => ?_, keeps.cycleCount, keeps.irqDispatch, keeps.host, keeps.tick⟩
  · exact (congrArg Control.mode control).trans (Control.after_mode _ hh hs)
  · exact (congrArg Control.ime control).trans (Control.after_ime _ hd he hr)
  · exact (congrArg Control.eiInhibit control).trans (Control.after_eiInhibit _ he)

/-! ### What every step keeps -/

theorem Keeps.endBooting (s : State) : Keeps s s.endBooting :=
  of_eq (by simp) (by simp) (by simp) (by simp) (by simp) (by simp)

/-- Every step, cost aside, keeps what no instruction breaks, and costs 1 to 6. -/
theorem runStep_keeps {s t : State} {n : Nat} (h : runStep s = .next (t, n)) :
    ∃ u, Keeps s.boundary u ∧ t = u.charge n ∧ 1 ≤ n ∧ n ≤ 6 := by
  have woken : Keeps s.boundary s.boundary.awake.clearInhibit := (Keeps.awake _).trans (.clearInhibit _)
  obtain ⟨-, -, e⟩ | ⟨-, -, e⟩ | ⟨-, -, e⟩ := runStep_cases s <;> rw [e] at h
  · cases h
    exact ⟨_, .refl _, rfl, by decide, by decide⟩
  · cases h
    exact ⟨_, woken.trans (.dispatch _), rfl, by decide, by decide⟩
  · obtain ⟨u, -, keeps, -, run⟩ := runInstr_spec s.boundary.awake.clearInhibit
    rw [run] at h
    cases h
    exact ⟨u.endBooting, (woken.trans keeps).trans (.endBooting u), rfl, cost_range (fetch_wellFormed _) _⟩

theorem runStep_of_step {s t : State} (h : step s = .next t) : ∃ n, runStep s = .next (t, n) := by
  unfold step at h
  split at h
  case h_1 x e => cases h; exact ⟨x.2, e⟩
  all_goals cases h

/-- Settles O13: whatever the step does, the charge is what changes the counter (`runStep_keeps`). -/
theorem stepCostIsCharged : Obligations.StepCostIsCharged := by
  intro s t n h
  obtain ⟨u, keeps, rfl, lo, hi⟩ := runStep_keeps h
  refine ⟨step_of_runStep h, ?_, lo, hi⟩
  rw [State.charge_cycleCount, keeps.cycleCount, State.boundary_cycleCount]

/-- Over a whole step, the host's changes included, the bus keeps its fixed base. -/
theorem step_extends {s t : State} (h : step s = .next t) : s.bus.Extends t.bus := by
  obtain ⟨n, h⟩ := runStep_of_step h
  obtain ⟨u, keeps, rfl, -, -⟩ := runStep_keeps h
  exact (Bus.extends_hostChanges _ _).trans keeps.bus

theorem step_irqDispatch {s t : State} (h : step s = .next t) : t.irqDispatch = s.irqDispatch := by
  obtain ⟨n, h⟩ := runStep_of_step h
  obtain ⟨u, keeps, rfl, -, -⟩ := runStep_keeps h
  exact keeps.irqDispatch

/-- Settles O17: the images and the latch are in the base that every step keeps (`step_extends`). -/
theorem constantsOfTheMachine : Obligations.ConstantsOfTheMachine := by
  intro s t h
  obtain ⟨bootRom, cart, latch, -⟩ := step_extends h
  exact ⟨bootRom, cart, step_irqDispatch h, latch⟩

/-! ### The invariant -/

/-- An operation that keeps the base keeps the invariant, where it enters Running only with the boot ROM unmapped. -/
theorem State.Inv.of_keeps {s t : State} (h : s.Inv) (k : Keeps s t)
    (hm : t.mode = .running → s.mode = .running ∨ t.bus.bootRomActive = false) : t.Inv where
  lowNibble := k.lowNibble h.lowNibble
  busForm := k.bus.form h.busForm
  runningUnmapped ht := (hm ht).elim (fun hs => k.bus.latch (h.runningUnmapped hs)) id

theorem State.Inv.boundary {s : State} (h : s.Inv) : s.boundary.Inv where
  lowNibble := h.lowNibble
  busForm := Bus.hostChanges_wf h.busForm _
  runningUnmapped := h.runningUnmapped

theorem State.Inv.charge {s : State} (h : s.Inv) (n : Nat) : (s.charge n).Inv :=
  ⟨h.lowNibble, h.busForm, h.runningUnmapped⟩

theorem State.Inv.clearInhibit {s : State} (h : s.Inv) : s.clearInhibit.Inv := h.of_keeps (.clearInhibit s) .inl

theorem State.Inv.dispatch {s : State} (h : s.Inv) : s.dispatch.Inv := h.of_keeps (.dispatch s) .inl

theorem State.Inv.advance {s : State} (h : s.Inv) (i : Instr) : (s.advance i).Inv := h.of_keeps (.advance s i) .inl

/-- The wake enters Running only with the boot ROM unmapped (spec/40_engine.md R88). -/
theorem State.Inv.awake {s : State} (h : s.Inv) : s.awake.Inv := by
  refine h.of_keeps (.awake s) fun hm => ?_
  rw [State.awake_mode] at hm
  split at hm
  · right
    unfold State.awakeMode at hm
    split at hm
    next => cases hm
    next hb => simpa using hb
  · exact .inl hm

/-- The end of Booting enters Running only with the boot ROM unmapped (spec/40_engine.md R88). -/
theorem State.Inv.endBooting {s : State} (h : s.Inv) : s.endBooting.Inv := by
  refine h.of_keeps (.endBooting s) fun hm => ?_
  rw [State.endBooting_mode] at hm
  split at hm
  next hb => exact .inr (by simpa using hb.2)
  next => exact .inl hm

/-- No execute phase enters Running: HALT and STOP leave it, and no other kind writes the mode. -/
theorem Control.mode_of_after_running {c : Control} {k : Kind} (h : (c.after k).mode = .running) : c.mode = .running := by
  cases k
  case halt | stop => cases h
  all_goals exact h

theorem executeRecord_inv {s : State} (h : s.Inv) (r : Record) : (executeRecord r s).Inv := by
  refine h.of_keeps (executeRecord_keeps r s) fun hm => .inl ?_
  have hc : (executeRecord r s).control.mode = .running := hm
  rw [executeRecord_control] at hc
  exact Control.mode_of_after_running hc

theorem runStep_inv {s t : State} {n : Nat} (h : s.Inv) (hr : runStep s = .next (t, n)) : t.Inv := by
  have woken : s.boundary.awake.clearInhibit.Inv := h.boundary.awake.clearInhibit
  obtain ⟨-, -, e⟩ | ⟨-, -, e⟩ | ⟨-, -, e⟩ := runStep_cases s <;> rw [e] at hr
  · cases hr
    exact h.boundary.charge 1
  · cases hr
    exact woken.dispatch.charge 5
  · obtain ⟨u, hu, -, -, run⟩ := runInstr_spec s.boundary.awake.clearInhibit
    rw [run] at hr
    cases hr
    subst hu
    exact (executeRecord_inv (woken.advance _) _).endBooting.charge _

/-- Settles O15: the boundary, the wake, the dispatch, the execute phase, the end of Booting and the charge each keep the
invariant. -/
theorem stepKeepsTheInvariant : Obligations.StepKeepsTheInvariant := by
  intro s t h hs
  obtain ⟨n, hr⟩ := runStep_of_step hs
  exact runStep_inv h hr

/-! ### The records of the table -/

/-- The destinations of the table (spec/30_encoding.md R68): ADD writes A, HL from a pair, or SP, and no LD, INC or DEC
has AF on its left. -/
def tableDestination (r : Record) : Bool :=
  match r.kind, r.lhs, r.rhs with
  | .add, .r8 .a, _ | .add, .r16 .hl, .r16 _ | .add, .r16 .sp, _ => true
  | .add, _, _ | .ld, .r16 .af, _ | .inc, .r16 .af, _ | .dec, .r16 .af, _ => false
  | _, _, _ => true

theorem tableDestination_record (i : Instr) : tableDestination i.record = true := by
  cases i <;> rfl

/-! ### What an execute phase leaves of PC, SP and the 8-bit registers -/

theorem State.reg8_setAcc_other (s : State) (v : Byte) (z n h c : Bool) {r : Reg8} (hr : r ≠ .a) :
    (s.setAcc v z n h c).reg8 r = s.reg8 r := by
  cases r
  case a => contradiction
  all_goals rfl

theorem reg8_wr8_other (x : Arg) (v : Byte) (s : State) {r : Reg8} (hr : r ∉ destWrites x) :
    (wr8 x v s).reg8 r = s.reg8 r := by
  cases x
  case r8 q => exact State.reg8_setReg8_other s v (by simpa [destWrites] using hr)
  all_goals rfl

theorem reg8_postAccess_other (x : Arg) (s : State) {r : Reg8} (hr : r ∉ accessWrites x) :
    (postAccess x s).reg8 r = s.reg8 r := by
  cases x
  case ptrInc | ptrDec => exact State.reg8_setReg16_other s _ hr
  all_goals rfl

theorem reg8_rotate_other (g : Byte → Byte × Bool) (t : Arg) (s : State) {r : Reg8} (hr : r ∉ destWrites t) :
    (rotate g t s).reg8 r = s.reg8 r :=
  (State.reg8_flags _ _ _ _ _ r).trans (reg8_wr8_other t _ s hr)

/-- What ADD does to a record of the table, by its three destinations (spec/30_encoding.md R68). -/
theorem executeRecord_add_cases {r : Record} (hk : r.kind = .add) (hd : tableDestination r = true) (s : State) :
    (r.lhs = .r8 .a ∧ executeRecord r s = addA r.rhs s) ∨
    (∃ rr, r.lhs = .r16 .hl ∧ r.rhs = .r16 rr ∧ executeRecord r s = addHl rr s) ∨
    (r.lhs = .r16 .sp ∧ executeRecord r s = addSp r.rhs s) := by
  obtain ⟨o, k, x, y, len, n, extra⟩ := r
  subst hk
  cases x
  case r8 q =>
    cases q
    case a => exact .inl ⟨rfl, rfl⟩
    all_goals cases hd
  case r16 rr =>
    cases rr
    case hl =>
      cases y
      case r16 rr => exact .inr (.inl ⟨rr, rfl, rfl, rfl⟩)
      all_goals cases hd
    case sp => exact .inr (.inr ⟨rfl, rfl⟩)
    all_goals cases hd
  all_goals cases hd

/-- PC beyond its advance is written by the transfers only (spec/10_state.md R22), whatever the record is. -/
theorem executeRecord_pc {r : Record} (h : transfers r.kind = false) (s : State) : (executeRecord r s).pc = s.pc := by
  unfold executeRecord
  cases hk : r.kind <;> rw [hk] at h <;> dsimp only
  case jr | jp | call | ret | reti | rst => cases h
  case nop | illegal | halt | stop | di | ei => rfl
  case adc | sub | sbc | and | xor | or | cp | rlca | rrca | rla | rra | daa | cpl | scf | ccf | bit => rfl
  case ld => split <;> simp [ldHlSp, ld16, ldStoreSp, ld8]
  case inc => split <;> simp [inc16, inc8]
  case dec => split <;> simp [dec16, dec8]
  case add =>
    split
    · simp [addHl]
    · rfl
    · rfl
  case push => split <;> rfl
  case pop => split <;> simp [pop]
  case rlc | rrc | rl | rr | sla | sra | swap | srl => exact wr8_pc s _ _
  case res | set => exact wr8_pc s _ _

theorem State.setReg16_sp_other (s : State) {rr : Reg16} (v : Word) (h : rr ≠ .sp) : (s.setReg16 rr v).sp = s.sp := by
  cases rr
  case sp => contradiction
  all_goals rfl

/-- SP is written by the forms of R21 only (spec/10_state.md R21), whatever the record is. -/
theorem executeRecord_sp {r : Record} (h : writesSp r = false) (s : State) : (executeRecord r s).sp = s.sp := by
  obtain ⟨o, k, x, y, len, n, extra⟩ := r
  unfold executeRecord
  cases k <;> dsimp only
  case push | pop | call | ret | reti | rst => cases h
  case nop | illegal | halt | stop | di | ei => rfl
  case adc | sub | sbc | and | xor | or | cp | rlca | rrca | rla | rra | daa | cpl | scf | ccf | bit => rfl
  case ld =>
    split
    · rfl
    · exact State.setReg16_sp_other s _ (by simpa [writesSp] using h)
    · rfl
    · simp [ld8]
  case inc =>
    split
    · exact State.setReg16_sp_other s _ (by simpa [writesSp] using h)
    · simp [inc8]
  case dec =>
    split
    · exact State.setReg16_sp_other s _ (by simpa [writesSp] using h)
    · simp [dec8]
  case add =>
    split
    · rfl
    · cases h
    · rfl
  case jr => rw [jr_eq]
  case jp =>
    split
    · rfl
    · rw [jp_eq]
  case rlc | rrc | rl | rr | sla | sra | swap | srl => exact wr8_sp s _ _
  case res | set => exact wr8_sp s _ _

/-- An 8-bit register is written where the record names it as destination or accumulator, or by a post-access
(spec/10_state.md R20). -/
theorem executeRecord_reg8 {r : Record} (hd : tableDestination r = true) {q : Reg8} (h : q ∉ writtenReg8 r) (s : State) :
    (executeRecord r s).reg8 q = s.reg8 q := by
  obtain ⟨o, k, x, y, len, n, extra⟩ := r
  cases k
  case add =>
    obtain ⟨rfl, e⟩ | ⟨rr, rfl, -, e⟩ | ⟨rfl, e⟩ := executeRecord_add_cases rfl hd s <;> rw [e]
    · exact State.reg8_setAcc_other s _ _ _ _ _ (by simpa [writtenReg8, destWrites] using h)
    · exact State.reg8_setReg16_other s _ h
    · cases q <;> rfl
  all_goals unfold executeRecord; dsimp only
  case nop | illegal | halt | stop | di | ei => rfl
  case cp | scf | ccf | bit => exact State.reg8_flags s _ _ _ _ q
  case adc | sub | sbc | and | xor | or | daa | cpl | rlca | rrca | rla | rra =>
    exact State.reg8_setAcc_other s _ _ _ _ _ (by simpa [writtenReg8] using h)
  case ld =>
    simp only [writtenReg8, List.mem_append, not_or] at h
    obtain ⟨⟨hx, hxa⟩, hya⟩ := h
    split
    · exact State.reg8_setReg16_other s _ hx
    · exact State.reg8_setReg16_other s _ hx
    · cases q <;> rfl
    · unfold ld8
      dsimp only
      rw [reg8_postAccess_other _ _ hxa, reg8_postAccess_other _ _ hya, reg8_wr8_other _ _ s hx]
  case inc | dec =>
    split
    · exact State.reg8_setReg16_other s _ h
    · exact (State.reg8_flags _ _ _ _ _ q).trans (reg8_wr8_other _ _ s h)
  case jr => rw [jr_eq]; rfl
  case jp =>
    split
    · rfl
    · rw [jp_eq]; rfl
  case call => unfold call; split <;> cases q <;> rfl
  case ret => unfold ret; split <;> cases q <;> rfl
  case reti | rst => cases q <;> rfl
  case push =>
    split
    · exact State.reg8_push16 s _ q
    · rfl
  case pop =>
    split
    · exact (State.reg8_setReg16_other _ _ h).trans (State.reg8_pop16 s q)
    · rfl
  case rlc | rrc | rl | rr | sla | sra | swap | srl => exact reg8_rotate_other _ _ s h
  case res | set => exact reg8_wr8_other _ _ s h

/-- Settles O31, from the three frames of the execute phase. -/
theorem registerFrameOfEveryInstruction : Obligations.RegisterFrameOfEveryInstruction := by
  intro i s t hw h
  rw [exec_eq_executeRecord hw] at h
  cases h
  exact ⟨fun q hq => executeRecord_reg8 (tableDestination_record i) hq s, fun hsp => executeRecord_sp hsp s,
    fun hpc => executeRecord_pc hpc s⟩

/-! ### The flags column -/

/-- The four flags of `t` are what the column `k` allows after `s` (spec/30_encoding.md R75). -/
def FlagsAllowed (k : FlagColumn) (s t : State) : Prop :=
  flagAllows k.z s.zf t.zf ∧ flagAllows k.n s.nf t.nf ∧ flagAllows k.h s.hf t.hf ∧ flagAllows k.c s.cf t.cf

/-- An execute phase that leaves F is allowed by the column `- - - -`. -/
theorem flagsAllowed_of_f_eq {s t : State} (h : t.f = s.f) : FlagsAllowed ⟨.keep, .keep, .keep, .keep⟩ s t := by
  simp [FlagsAllowed, flagAllows, State.zf, State.nf, State.hf, State.cf, h]

/-- What `flags` is given for a flag fits the flag's effect: anything where it is computed, 0 where it is cleared, 1 where
it is set, and `-` where it is kept (spec/42_alu8.md R118). -/
def fitsEffect : FlagEffect → Option Bool → Bool
  | .computed, _ => true
  | .zero, some b => !b
  | .one, some b => b
  | .keep, none => true
  | _, _ => false

theorem flagAllows_of_fitsEffect {e : FlagEffect} {v : Option Bool} (h : fitsEffect e v = true) (before : Bool) :
    flagAllows e before (v.getD before) :=
  match e, v, h with
  | .computed, _, _ => trivial
  | .zero, some false, _ => rfl
  | .one, some true, _ => rfl
  | .keep, none, _ => rfl

/-- A write of the flags over an update that leaves F is allowed by every column it fits. -/
theorem flagsAllowed_flags {k : FlagColumn} {s u : State} {z n h c : Option Bool} (hf : u.f = s.f)
    (fits : (fitsEffect k.z z && fitsEffect k.n n && fitsEffect k.h h && fitsEffect k.c c) = true) :
    FlagsAllowed k s (u.flags z n h c) := by
  simp only [Bool.and_eq_true, and_assoc] at fits
  obtain ⟨hz, hn, hh, hc⟩ := fits
  simp only [FlagsAllowed, State.zf, State.nf, State.hf, State.cf, State.flags_f, flagByte_z, flagByte_n, flagByte_h,
    flagByte_c, hf]
  exact ⟨flagAllows_of_fitsEffect hz _, flagAllows_of_fitsEffect hn _, flagAllows_of_fitsEffect hh _,
    flagAllows_of_fitsEffect hc _⟩

theorem State.setReg16_f_other (s : State) {rr : Reg16} (v : Word) (h : rr ≠ .af) : (s.setReg16 rr v).f = s.f := by
  cases rr
  case af => contradiction
  all_goals rfl

/-- Of the loads only LD HL,SP+e8 writes flags (spec/41_loads.md R113). -/
theorem flagColumn_ld {r : Record} (hk : r.kind = .ld) (h : ∀ n, r.lhs = .r16 .hl → r.rhs ≠ .spOffset n) :
    r.flagColumn = ⟨.keep, .keep, .keep, .keep⟩ := by
  unfold Record.flagColumn
  rw [hk]
  split <;> simp_all

/-- The execute phase of a record of the table leaves the flags its column allows. -/
theorem executeRecord_flagsAllowed {r : Record} (hd : tableDestination r = true) (s : State) :
    FlagsAllowed r.flagColumn s (executeRecord r s) := by
  obtain ⟨o, k, x, y, len, n, extra⟩ := r
  cases k
  case add =>
    obtain ⟨rfl, e⟩ | ⟨rr, rfl, rfl, e⟩ | ⟨rfl, e⟩ := executeRecord_add_cases rfl hd s <;> rw [e]
    all_goals exact flagsAllowed_flags rfl rfl
  case ld =>
    unfold executeRecord
    dsimp only
    split
    · exact flagsAllowed_flags rfl rfl
    next rr _ hne =>
      rw [flagColumn_ld rfl fun n hx hy => hne n hy (Arg.r16.inj hx)]
      exact flagsAllowed_of_f_eq (State.setReg16_f_other s _ (by rintro rfl; cases hd))
    · rw [flagColumn_ld rfl (by simp)]
      exact flagsAllowed_of_f_eq rfl
    · rw [flagColumn_ld rfl (by simp_all)]
      exact flagsAllowed_of_f_eq (by simp [ld8])
  case inc | dec =>
    cases x
    case r16 rr => exact flagsAllowed_of_f_eq (State.setReg16_f_other s _ (by rintro rfl; cases hd))
    all_goals exact flagsAllowed_flags (wr8_f s _ _) rfl
  case pop =>
    cases x
    case r16 rr =>
      cases rr
      case af => exact ⟨trivial, trivial, trivial, trivial⟩
      all_goals exact flagsAllowed_of_f_eq rfl
    all_goals exact flagsAllowed_of_f_eq rfl
  case nop | prefixCb | illegal | halt | stop | di | ei | reti | rst => exact flagsAllowed_of_f_eq rfl
  case adc | sub | sbc | and | xor | or | cp | daa | cpl | scf | ccf | rlca | rrca | rla | rra | bit =>
    exact flagsAllowed_flags rfl rfl
  case rlc | rrc | rl | rr | sla | sra | swap | srl => exact flagsAllowed_flags (wr8_f s _ _) rfl
  case res | set => exact flagsAllowed_of_f_eq (wr8_f s _ _)
  case jr => exact flagsAllowed_of_f_eq (by simp only [executeRecord, jr_eq])
  case jp =>
    refine flagsAllowed_of_f_eq ?_
    unfold executeRecord
    dsimp only
    split
    · rfl
    · rw [jp_eq]
  case call => exact flagsAllowed_of_f_eq (by unfold executeRecord call; dsimp only; split <;> rfl)
  case ret => exact flagsAllowed_of_f_eq (by unfold executeRecord ret; dsimp only; split <;> rfl)
  case push => exact flagsAllowed_of_f_eq (by unfold executeRecord; dsimp only; split <;> rfl)

/-- Settles O33: the column of the table, and F[3:0] from `Keeps`. -/
theorem flagsFollowTheTableColumn : Obligations.FlagsFollowTheTableColumn := by
  intro i s t hw h
  rw [exec_eq_executeRecord hw] at h
  cases h
  obtain ⟨hz, hn, hh, hc⟩ := executeRecord_flagsAllowed (tableDestination_record i) s
  exact ⟨hz, hn, hh, hc, (executeRecord_keeps i.record s).lowNibble⟩

end Sys2Proof.Machine

namespace Sys2Proof.Machine

/-! ### Sequences of writes, and the memory frame -/

/-- `b'` comes from `b` by writes at addresses of `as`, in any order and number. -/
inductive Bus.WrittenAt (as : List Word) (b : Bus) : Bus → Prop
  | refl : WrittenAt as b b
  | write {b' : Bus} {a : Word} (v : Byte) (h : WrittenAt as b b') (ha : a ∈ as) : WrittenAt as b (b'.write a v)

/-- Writes at no address leave the bus. -/
theorem Bus.WrittenAt.eq_of_nil {b b' : Bus} (h : Bus.WrittenAt [] b b') : b' = b := by
  cases h with
  | refl => rfl
  | write v h ha => cases ha

/-- No sequence of writes maps the boot ROM again (spec/10_state.md R27). -/
theorem Bus.WrittenAt.boot_oneWay {as : List Word} {b b' : Bus} (h : Bus.WrittenAt as b b')
    (h0 : b.bootRomActive = false) : b'.bootRomActive = false := by
  induction h with
  | refl => exact h0
  | write v _ _ ih => exact Bus.write_boot_oneWay _ _ v ih

/-- Writes leave the bytes at other addresses, but for the overlay where one of them disables the boot ROM
(spec/20_memory.md R38, R40). No write maps the boot ROM again, so a latch that ends as it began never changed. -/
theorem Bus.WrittenAt.read_other {as : List Word} {b b' : Bus} (h : Bus.WrittenAt as b b') {a : Word} (ha : a ∉ as)
    (ho : Config.bootEnd < a.toNat ∨ b'.bootRomActive = b.bootRomActive) : b'.read a = b.read a := by
  induction h with
  | refl => rfl
  | @write c x v hc hx ih =>
    have hne : a ≠ x := fun e => ha (e ▸ hx)
    have unchanged (h : (c.write x v).bootRomActive = b.bootRomActive) : c.bootRomActive = b.bootRomActive := by
      cases hb : b.bootRomActive with
      | false => exact hc.boot_oneWay hb
      | true => exact Bool.eq_true_of_not_eq_false fun h0 => by simp [Bus.write_boot_oneWay c x v h0, hb] at h
    rw [Bus.read_write_other c v hne (ho.imp_right fun h => h.trans (unchanged h).symm), ih (ho.imp_right unchanged)]

/-- `wr8` writes at the address its argument resolves to, if it is one (spec/40_engine.md R79, R81). -/
theorem writtenAt_wr8 {as : List Word} {x : Arg} {s : State} (v : Byte) (h : ∀ a, resolve x s = .mem a → a ∈ as) :
    Bus.WrittenAt as s.bus (wr8 x v s).bus := by
  unfold wr8
  cases hx : resolve x s
  case mem a => exact .write v .refl (h a hx)
  case reg8 r => exact State.setReg8_bus s r v ▸ .refl
  all_goals exact .refl

theorem writtenAt_write16 (s : State) (a v : Word) : Bus.WrittenAt [a, a + 1] s.bus (s.write16 a v).bus :=
  .write _ (.write _ .refl (by simp)) (by simp)

theorem writtenAt_push16 (s : State) (v : Word) : Bus.WrittenAt [s.sp - 1, s.sp - 2] s.bus (s.push16 v).bus := by
  rw [push16_eq]
  exact .write _ (.write _ .refl (by simp)) (by simp)

theorem writtenAt_of_bus_eq {as : List Word} {s t : State} (h : t.bus = s.bus) : Bus.WrittenAt as s.bus t.bus :=
  h ▸ .refl

/-- An 8-bit load stores to the address of its left-hand argument. -/
theorem mem_storedAt_ld {r : Record} (hk : r.kind = .ld) {s : State} {a : Word} (h : resolve r.lhs s = .mem a) :
    a ∈ storedAt r s := by
  unfold storedAt
  rw [hk, h]
  cases r.rhs <;> simp

/-- The execute phase of a record writes only at the addresses of `storedAt`, whatever the record is
(spec/20_memory.md R48). -/
theorem executeRecord_writtenAt (r : Record) (s : State) :
    Bus.WrittenAt (storedAt r s) s.bus (executeRecord r s).bus := by
  obtain ⟨o, k, x, y, len, n, extra⟩ := r
  unfold executeRecord
  cases k <;> dsimp only
  case ld =>
    split
    · exact .refl
    · exact writtenAt_of_bus_eq (State.setReg16_bus s _ _)
    · exact writtenAt_write16 s _ _
    · simpa [ld8] using writtenAt_wr8 (rd8 y s) fun a h => mem_storedAt_ld rfl h
  case inc | dec =>
    split
    · exact writtenAt_of_bus_eq (State.setReg16_bus s _ _)
    · exact writtenAt_wr8 _ fun a h => by simp [storedAt, h]
  case rlc | rrc | rl | rr | sla | sra | swap | srl | res | set =>
    exact writtenAt_wr8 _ fun a h => by simp [storedAt, h]
  case push =>
    split
    · exact writtenAt_push16 s _
    · exact .refl
  case rst => exact writtenAt_push16 s _
  case call =>
    unfold call storedAt
    dsimp only
    split
    · exact writtenAt_push16 s _
    · exact .refl
  case pop => split <;> exact writtenAt_of_bus_eq (by simp [pop])
  case add => split <;> exact .refl
  case jr => exact writtenAt_of_bus_eq (by rw [jr_eq])
  case jp =>
    split
    · exact .refl
    · exact writtenAt_of_bus_eq (by rw [jp_eq])
  case ret => exact writtenAt_of_bus_eq (by unfold ret; split <;> rfl)
  case nop | prefixCb | illegal | halt | stop | di | ei | reti => exact .refl
  case adc | sub | sbc | and | xor | or | cp | rlca | rrca | rla | rra | daa | cpl | scf | ccf | bit => exact .refl

/-- Settles O30: the execute phase writes only at the addresses of `storedAt`. -/
theorem memoryFrameOfEveryInstruction : Obligations.MemoryFrameOfEveryInstruction := by
  intro i s t hw _ h
  rw [exec_eq_executeRecord hw] at h
  cases h
  have written := executeRecord_writtenAt i.record s
  exact ⟨fun hnil => (hnil ▸ written).eq_of_nil, fun a ha ho => written.read_other ha ho⟩

/-! ### The bus and its accesses -/

/-- Settles O25: the laws of the bus write. -/
theorem busWrites : Obligations.BusWrites := by
  intro b a v hb
  exact ⟨Bus.write_readOnly b v, Bus.read_write_same hb v, fun a' hne ho => Bus.read_write_other b v hne ho,
    Bus.write_wf hb a v⟩

/-- The first of two bytes written above the read-only window at different addresses reads back. -/
theorem Bus.read_write_write_first {b : Bus} (hb : b.wf) {a a' : Word} (v v' : Byte) (hne : a ≠ a')
    (ha : Config.cartEnd < a.toNat) : ((b.write a v).write a' v').read a = v := by
  have : Config.bootEnd < a.toNat := lt_trans (by decide) ha
  rw [Bus.read_write_other _ v' hne (.inl this), Bus.read_write_same hb v ha]

/-- Settles O29: the low byte was written last, and the high byte at the other address stays. -/
theorem popUndoesPush : Obligations.PopUndoesPush := by
  intro s v hb hHigh hLow
  have hsp1 : s.sp - 2 + 1 = s.sp - 1 := by bv_omega
  have hsp2 : s.sp - 2 + 2 = s.sp := by bv_omega
  have hne : s.sp - 1 ≠ s.sp - 2 := by bv_omega
  have high : (pushed s v).read (s.sp - 1) = hi v := Bus.read_write_write_first hb _ _ hne hHigh
  have low : (pushed s v).read (s.sp - 2) = lo v := Bus.read_write_same (Bus.write_wf hb _ _) _ hLow
  have hsp : (pushed s v).sp = s.sp - 2 := rfl
  rw [push16_eq, pop16_eq, hsp, hsp1, hsp2, high, low, cat_hi_lo]

/-- The read of the cartridge window where the boot ROM is not mapped over it (spec/20_memory.md R38, R39). -/
theorem Bus.read_cart {b : Bus} {a : Word} (ho : b.bootRomActive = false ∨ Config.bootEnd < a.toNat)
    (ha : a.toNat ≤ Config.cartEnd) : b.read a = (b.cart.getD []).getD a.toNat Config.openBus := by
  have : ¬(b.bootRomActive = true ∧ a.toNat ≤ Config.bootEnd) := by
    rintro ⟨hm, hle⟩
    rcases ho with ho | ho
    · simp [ho] at hm
    · omega
  rw [Bus.read, if_neg this, if_pos ha]

/-- The read above the read-only window (spec/20_memory.md R38). -/
theorem Bus.read_ram {b : Bus} {a : Word} (ha : Config.cartEnd < a.toNat) :
    b.read a = if isVolatile a.toNat then Memory.lookup b.io a.toNat else Memory.lookup b.ram a.toNat := by
  have : ¬a.toNat ≤ Config.bootEnd := not_le.mpr (lt_trans (by decide) ha)
  rw [Bus.read, if_neg fun h => this h.2, if_neg (not_le.mpr ha)]

/-- Settles O24: one law of `read` for each of the three ranges. -/
theorem busReads : Obligations.BusReads := by
  intro b a
  refine ⟨fun hm ha => ?_, fun ho ha => ?_, fun ha => ?_⟩
  · exact if_pos ⟨hm, ha⟩
  · rw [Bus.read_cart ho ha]
    refine ⟨fun image hc h => ?_, fun image hc h => ?_, fun hn => ?_⟩
    · rw [hc]; exact List.getD_eq_getElem image _ h
    · rw [hc]; exact List.getD_eq_default image _ h
    · rw [hn]; rfl
  · rw [Bus.read_ram ha]
    simp only [isVolatile_iff]

/-- The write that disables the boot ROM (spec/20_memory.md R40). -/
theorem disablesBoot_iff (a : Word) (v : Byte) : disablesBoot a v = true ↔ a = 0xFF50 ∧ v ≠ 0 := by
  rw [← BitVec.toNat_inj, disablesBoot, Bool.and_eq_true, beq_iff_eq, bne_iff_ne]
  rfl

/-- A write that does not disable the boot ROM leaves the latch. -/
theorem Bus.write_bootRomActive_of_not (b : Bus) {a : Word} {v : Byte} (h : ¬(a = 0xFF50 ∧ v ≠ 0)) :
    (b.write a v).bootRomActive = b.bootRomActive := by
  rw [← disablesBoot_iff, Bool.not_eq_true] at h
  simp [Bus.write_bootRomActive, h]

/-- Settles O26: the latch after a write is `Bus.write_bootRomActive`. -/
theorem bootDisableWrite : Obligations.BootDisableWrite := by
  intro b v hb
  refine ⟨fun hv => ?_, Bus.read_write_same hb v (by decide), ?_, fun a ha => ?_⟩
  · rw [Bus.write_bootRomActive, (disablesBoot_iff 0xFF50 v).mpr ⟨rfl, hv⟩, Bool.not_true, Bool.and_false]
  · exact Bus.write_bootRomActive_of_not b fun h => h.2 rfl
  · exact Bus.write_bootRomActive_of_not b fun h => ha h.1

/-- `VOLATILE` as a set of words (spec/20_memory.md R42). -/
theorem isVolatile_toNat_iff (a : Word) :
    isVolatile a.toNat = true ↔ 0xFF00 ≤ a.toNat ∧ a.toNat ≤ 0xFF7F ∧ a ≠ 0xFF50 := by
  rw [isVolatile_iff, Ne, Ne, ← BitVec.toNat_inj]
  rfl

/-- Settles O27: the two laws of the host's changes, outside `VOLATILE` and in it. -/
theorem hostChangesOnlyVolatileBytes : Obligations.HostChangesOnlyVolatileBytes := by
  intro s a
  simp only [← isVolatile_toNat_iff, Bool.not_eq_true]
  exact ⟨Bus.read_hostChanges s.bus _, fun hb ha => Bus.read_hostChanges_volatile hb _ ha⟩

theorem lo_eq_op (v : Word) : lo v = op (v.toNat % 256) := by
  apply BitVec.eq_of_toNat_eq
  simp [lo_toNat]

theorem hi_eq_op (v : Word) : hi v = op (v.toNat / 256) := by
  have := v.isLt
  apply BitVec.eq_of_toNat_eq
  rw [hi_toNat, BitVec.toNat_ofNat]
  omega

/-- Settles O28: the two bytes of `write16` go to different addresses, so each reads back. -/
theorem sixteenBitAccessesAreLittleEndian : Obligations.SixteenBitAccessesAreLittleEndian := by
  intro s a v hb
  have hne : a ≠ a + 1 := by bv_omega
  have low (ha : 0x7FFF < a.toNat) : (s.write16 a v).read a = lo v := Bus.read_write_write_first hb _ _ hne ha
  have high (ha : 0x7FFF < (a + 1).toNat) : (s.write16 a v).read (a + 1) = hi v :=
    Bus.read_write_same (Bus.write_wf hb _ _) _ ha
  refine ⟨cat_toNat _ _, ?_, fun ha => ?_, fun ha => ?_, fun ha ha' => ?_⟩
  · rw [← lo_eq_op, ← hi_eq_op]; rfl
  · rw [low ha, lo_toNat]
  · rw [high ha, hi_toNat]
  · rw [State.read16, low ha, high ha', cat_hi_lo]

/-! ### Taking an interrupt -/

/-- The lowest pending source (spec/60_exceptions.md R180, R182). -/
theorem lowestSource_eq {p : Byte} {n : Nat} (hn : n < 5) (h : p.getLsbD n = true)
    (lower : ∀ k < n, p.getLsbD k = false) : lowestSource p = n := by
  unfold lowestSource
  interval_cases n <;> simp [h, lower, -BitVec.getLsbD_eq_getElem]

/-- The wake as one update (spec/40_engine.md R84, R88). -/
theorem State.awake_eq (s : State) :
    s.awake = { s with mode := if s.mode = .halted then s.awakeMode else s.mode } := by
  unfold State.awake
  split <;> rfl

theorem State.clearInhibit_of_clear {s : State} (h : s.eiInhibit = false) : s.clearInhibit = s := by
  unfold State.clearInhibit
  rw [← h]

/-- With the option on, IME set, no inhibit and a source pending, the step takes the interrupt, from Halted too
(spec/40_engine.md R84, R90; spec/60_exceptions.md R181). -/
theorem step_of_pending {s : State} (ho : s.irqDispatch = true) (hime : s.ime = true) (he : s.eiInhibit = false)
    (hp : (s.boundary.pending != 0) = true) : step s = .next (s.boundary.awake.dispatch.charge 5) := by
  have wakes : s.boundary.wakes s.hostInput.irqPending = true := (if_pos ho).trans hp
  have due : s.boundary.dispatchDue = true := by
    rw [State.dispatchDue, State.boundary_irqDispatch, State.boundary_ime, State.boundary_eiInhibit, ho, hime, he, hp]
    rfl
  obtain ⟨-, h, -⟩ | ⟨-, -, h⟩ | ⟨-, h, -⟩ := runStep_cases s
  · simp [wakes] at h
  · rw [State.clearInhibit_of_clear (by simp [he])] at h
    exact step_of_runStep h
  · simp [due] at h

/-- Settles O59: the step dispatches, and `dispatch_eq` is what dispatching the lowest source does. -/
theorem interruptDispatch : Obligations.InterruptDispatch := by
  intro s n s1 flag pending ho hime he hn lower
  have hp : s1.pending = pending := rfl
  have nonzero : (s1.pending != 0) = true := bne_iff_ne.mpr fun h0 => by simp [← hp, h0] at hn
  have source : lowestSource s1.awake.pending = n := by
    rw [State.awake_eq]
    exact lowestSource_eq n.isLt hn fun k hk => lower ⟨k, hk.trans n.isLt⟩ hk
  rw [step_of_pending ho hime he nonzero, dispatch_eq _ n source, State.awake_eq]
  rfl

end Sys2Proof.Machine

namespace Sys2Proof.Machine

/-! ### The self-check of the tables -/

theorem selfCheck_base {r : Record} {o : Byte} (ho : r.opcode = .base o) (h : r.wellFormed = true) :
    r.length = 1 + r.lhs.payloadSize + r.rhs.payloadSize ∧ (r.lhs.payloadSize = 0 ∨ r.rhs.payloadSize = 0) := by
  simpa [Record.wellFormed, Record.onePayload, Record.baseLength, ho, and_comm] using h

theorem selfCheck_cb {r : Record} {o : Byte} (ho : r.opcode = .cb o) (h : r.wellFormed = true) :
    r.length = 2 ∧ ((∃ q, r.lhs = .r8 q) ∨ r.lhs = .ptr .hl) ∧ (r.rhs = .none ∨ ∃ n, r.rhs = .lit n) := by
  simp only [Record.wellFormed, Record.extendedShape, ho, Bool.and_eq_true, beq_iff_eq] at h
  obtain ⟨⟨two, left⟩, right⟩ := h
  refine ⟨two, ?_, ?_⟩
  · split at left
    next q hl => exact .inl ⟨q, hl⟩
    next hl => exact .inr hl
    next => cases left
  · split at right
    next hr => exact .inl hr
    next n hr => exact .inr ⟨n, hr⟩
    next => cases right

theorem record_wellFormed {i : Instr} (h : i.wellFormed = true) : i.record.wellFormed = true := by
  cases i
  case prefix_cb => cases h
  all_goals rfl

/-- Settles O5: each record passes `Record.wellFormed`, whose two cases are the two parts of the self-check. -/
theorem tableEntriesPassTheSelfCheck : Obligations.TableEntriesPassTheSelfCheck := fun _ h =>
  ⟨fun _ ho => selfCheck_base ho (record_wellFormed h),
    fun _ ho => selfCheck_cb ho (record_wellFormed h)⟩

theorem payloadSize_le_two (x : Arg) : x.payloadSize ≤ 2 := by
  unfold Arg.payloadSize
  split <;> decide

/-- An instruction has 1 to 3 bytes: the self-check allows one immediate, of at most two bytes
(spec/30_encoding.md R57, R66). -/
theorem length_range {i : Instr} (h : i.wellFormed = true) : 1 ≤ i.length ∧ i.length ≤ 3 := by
  have wf := record_wellFormed h
  have left := payloadSize_le_two i.record.lhs
  have right := payloadSize_le_two i.record.rhs
  unfold Instr.length
  cases ho : i.record.opcode with
  | base o =>
    obtain ⟨len, one⟩ := selfCheck_base ho wf
    omega
  | cb o =>
    obtain ⟨two, -, -⟩ := selfCheck_cb ho wf
    omega

theorem encode_length (i : Instr) : (encode i).length = i.length := by
  cases i <;> rfl

/-! ### The extended table by its fields -/

/-- The operation of an extended entry, from the fields x and y of its selector (spec/30_encoding.md R69). -/
def extendedKind : Nat → Nat → Kind
  | 0, 0 => .rlc
  | 0, 1 => .rrc
  | 0, 2 => .rl
  | 0, 3 => .rr
  | 0, 4 => .sla
  | 0, 5 => .sra
  | 0, 6 => .swap
  | 0, _ => .srl
  | 1, _ => .bit
  | 2, _ => .res
  | _, _ => .set

/-- The record of an extended entry, from the fields x, y and z of its selector (spec/30_encoding.md R69;
spec/44_rotate_shift_bit.md R140). -/
def extendedRecord (sel : Byte) : Record :=
  let x := (sel.extractLsb' 6 2).toNat
  let y := (sel.extractLsb' 3 3).toNat
  let z := (sel.extractLsb' 0 3).toNat
  { opcode := .cb sel
    kind := extendedKind x y
    lhs := r8Operand z
    rhs := if x = 0 then .none else .lit (op y)
    length := 2
    cycles := if z = 6 then (if x = 1 then 3 else 4) else 2
    takenExtra := 0 }

/-- The rows written out in the table are the regular ones. -/
theorem cbEntry_record (sel : Byte) : (cbEntry sel).record = extendedRecord sel := by
  revert sel; decide +kernel

theorem decode3_cb (b1 b2 : Byte) : decode3 0xCB b1 b2 = cbEntry b1 := rfl

theorem decode3_base {b0 : Byte} (h : b0 ≠ 0xCB) (b1 b2 : Byte) : decode3 b0 b1 b2 = baseEntry b0 b1 b2 := if_neg h

theorem encode_cbEntry (sel : Byte) : encode (cbEntry sel) = [0xCB, sel] := by
  unfold encode
  rw [cbEntry_record]
  rfl

/-- The operation `extended` picks by the fields of its selector is the one the record names. -/
theorem executeRecord_extendedRecord (sel : Byte) (s : State) :
    executeRecord (extendedRecord sel) s = extended sel s := by
  unfold extendedRecord extended
  have hx := (sel.extractLsb' 6 2).isLt
  have hy := (sel.extractLsb' 3 3).isLt
  generalize (sel.extractLsb' 6 2).toNat = x at hx ⊢
  generalize (sel.extractLsb' 3 3).toNat = y at hy ⊢
  interval_cases x <;> interval_cases y <;> rfl

/-! ### Decoding and encoding -/

/-- A 16-bit immediate stands in the two bytes it is read from (spec/30_encoding.md R64). -/
theorem wordBytes_cat (o l h : Byte) : [o, lo (cat h l), hi (cat h l)] = [o, l, h] := by
  rw [lo_cat, hi_cat]

/-- Every base entry stands at its opcode: one without a 16-bit immediate has the very bytes it is read from, and the
others have them by `wordBytes_cat`. -/
theorem encode_baseEntry (o b1 b2 : Byte) :
    encode (baseEntry o b1 b2) = [o, b1, b2].take (baseEntry o 0 0).length := by
  obtain ⟨n⟩ := o
  fin_cases n <;> first | rfl | exact wordBytes_cat _ b1 b2

theorem encode_decode3 (b0 b1 b2 : Byte) :
    encode (decode3 b0 b1 b2) = [b0, b1, b2].take (decode3 b0 0 0).length := by
  by_cases h : b0 = 0xCB
  · subst h
    exact encode_cbEntry b1
  · rw [decode3_base h, decode3_base h]
    exact encode_baseEntry b0 b1 b2

/-- The first byte alone gives the length (spec/30_encoding.md R57). -/
theorem length_decode3 (b0 b1 b2 : Byte) : (decode3 b0 b1 b2).length = (decode3 b0 0 0).length := by
  rw [← encode_length, encode_decode3, List.length_take]
  exact Nat.min_eq_left (length_range (decode3_wellFormed b0 0 0)).2

/-- Settles O3: the bytes are those of `encode_decode3`, and their number does not depend on the operands. -/
theorem encodeOfDecodeIsTheBytesRead : Obligations.EncodeOfDecodeIsTheBytesRead := fun b0 b1 b2 =>
  ⟨decode3_wellFormed b0 b1 b2, by rw [length_decode3]; exact encode_decode3 b0 b1 b2⟩

/-- Settles O4, by `length_decode3` and `length_range`. -/
theorem lengthIsKnownFromByteZero : Obligations.LengthIsKnownFromByteZero := by
  intro b0 b1 b2 b1' b2'
  obtain ⟨low, high⟩ := length_range (decode3_wellFormed b0 b1 b2)
  refine ⟨by rw [length_decode3, length_decode3 b0 b1'], low, high, ?_⟩
  rintro rfl
  rw [← encode_length, decode3_cb, encode_cbEntry]
  rfl

/-- Three bytes that begin with the encoding of an instruction decode to it. The instructions with a 16-bit immediate
are the listed ones; the others need no more than the bytes. -/
theorem decode3_of_encode {i : Instr} (h : i.wellFormed = true) {b0 b1 b2 : Byte}
    (he : encode i = [b0, b1, b2].take i.length) : decode3 b0 b1 b2 = i := by
  cases i
  case prefix_cb => cases h
  case ld_bc_d16 w | ld_de_d16 w | ld_hl_d16 w | ld_sp_d16 w | ld_ma16_sp w | ld_ma16_a w | ld_a_ma16 w | jp_a16 w |
      jp_nz_a16 w | jp_z_a16 w | jp_nc_a16 w | jp_c_a16 w | call_a16 w | call_nz_a16 w | call_z_a16 w |
      call_nc_a16 w | call_c_a16 w =>
    cases he
    exact congrArg _ (cat_hi_lo w)
  all_goals
    cases he
    rfl

/-- The three bytes `decode` looks at begin with a prefix of at most three. -/
theorem eq_take_getD_append {bs : List Byte} (h : bs.length ≤ 3) (rest : List Byte) :
    bs = [(bs ++ rest).getD 0 0, (bs ++ rest).getD 1 0, (bs ++ rest).getD 2 0].take bs.length := by
  match bs, h with
  | [], _ | [_], _ | [_, _], _ | [_, _, _], _ => rfl

/-- `decode` takes the bytes of the instruction that its first three bytes give, and leaves the others. -/
theorem decode_append {bs rest : List Byte} {i : Instr} (hl : bs.length = i.length) (hpos : 1 ≤ i.length)
    (h : decode3 ((bs ++ rest).getD 0 0) ((bs ++ rest).getD 1 0) ((bs ++ rest).getD 2 0) = i) :
    decode (bs ++ rest) = .ok (i, rest) := by
  cases bs with
  | nil => simp [← hl] at hpos
  | cons b t =>
    have ht : i.length = t.length + 1 := hl.symm
    have hd : decode3 b ((t ++ rest).getD 0 0) ((t ++ rest).getD 1 0) = i := h
    simp only [List.cons_append, decode, hd, ht]
    rw [if_pos (by simp)]
    simp

/-- Settles O2: the three bytes read begin with the encoding, so `decode3_of_encode` gives the instruction. -/
theorem decodeOfEncodeIsIdentity : Obligations.DecodeOfEncodeIsIdentity := by
  intro i rest h
  obtain ⟨low, high⟩ := length_range h
  have hl := encode_length i
  have he := eq_take_getD_append (hl.trans_le high) rest
  rw [hl] at he
  exact decode_append hl low (decode3_of_encode h he)

/-- Settles O1: the ten clauses are closed. -/
theorem knownWordsDecode : Obligations.KnownWordsDecode := by
  unfold Obligations.KnownWordsDecode
  decide

/-! ### Costs -/

/-- The taken extra of an entry (spec/40_engine.md R87). -/
def takenExtraOf (r : Record) : Nat :=
  match r.lhs with
  | .cond .none => 0
  | .cond _ => if r.kind = .call ∨ r.kind = .ret then 3 else 1
  | _ => 0

theorem takenExtra_record (i : Instr) : i.record.takenExtra = takenExtraOf i.record := by
  cases i <;> rfl

theorem takenExtraOf_conditional {r : Record} {k : CondKind} (hk : k ≠ .none) (h : r.lhs = .cond k) :
    takenExtraOf r = if r.kind = .call ∨ r.kind = .ret then 3 else 1 := by
  unfold takenExtraOf
  rw [h]
  cases k
  case none => contradiction
  all_goals rfl

theorem takenExtraOf_unconditional {r : Record} (h : ∀ k, r.lhs = .cond k → k = .none) : takenExtraOf r = 0 := by
  unfold takenExtraOf
  split
  next => rfl
  next k hk hl => exact absurd (h k hl) hk
  next => rfl

/-- Settles O6: the extra is `takenExtraOf`, and the costs of the extended table are read from `extendedRecord`. -/
theorem costsOfTheTables : Obligations.CostsOfTheTables := by
  refine ⟨fun i => ⟨fun k hk h => ?_, fun h => ?_⟩, fun x y h z b2 => ?_⟩
  · rw [takenExtra_record, takenExtraOf_conditional hk h]
  · rw [takenExtra_record, takenExtraOf_unconditional h]
  · have hx : ((op (64 * x + 32 * h + 8 * y + z)).extractLsb' 6 2).toNat = x := by
      simp [BitVec.extractLsb'_toNat, Nat.shiftRight_eq_div_pow]; omega
    have hz : ((op (64 * x + 32 * h + 8 * y + z)).extractLsb' 0 3).toNat = z := by
      simp [BitVec.extractLsb'_toNat]; omega
    dsimp only
    rw [decode3_cb, Instr.length, cbEntry_record]
    refine ⟨rfl, rfl, ?_⟩
    simp only [extendedRecord, hx, hz, Fin.ext_iff]
    rfl

/-! ### The meaning of the record -/

/-- Settles O7: it is the law `exec_eq_executeRecord`. -/
theorem execAgreesWithTheTableRecord : Obligations.ExecAgreesWithTheTableRecord :=
  fun _ s h => exec_eq_executeRecord h s

/-- Settles O8: the constructor and the extended entry both run `extended`, and what is decoded is well formed. -/
theorem prefixRunsTheExtendedEntry : Obligations.PrefixRunsTheExtendedEntry := by
  intro sel b2 s
  refine ⟨?_, ⟨extended sel s, rfl⟩, fun b0 b1 b2 h => ?_⟩
  · calc exec (.prefix_cb sel) s
      _ = .next (extended sel s) := rfl
      _ = exec (cbEntry sel) s := by
        rw [exec_eq_executeRecord (cbEntry_wellFormed sel), cbEntry_record, executeRecord_extendedRecord]
  · have wf := decode3_wellFormed b0 b1 b2
    rw [h] at wf
    cases wf

end Sys2Proof.Machine

namespace Sys2Proof.Machine

/-! ### Conditions and operands -/

/-- Settles O22: the polarity is `State.cond`, and the sixteen opcodes are rows of the table. -/
theorem conditionPolarity : Obligations.ConditionPolarity := by
  intro s cc o b1 b2
  refine ⟨rfl, rfl, rfl, rfl, rfl, fun h => ?_⟩
  simp only [List.mem_cons, List.not_mem_nil, or_false] at h
  obtain rfl | rfl | rfl | rfl := h <;> fin_cases cc <;> rfl

theorem rd8_r8Operand (z : Fin 8) (s : State) :
    rd8 (r8Operand z) s = ![s.b, s.c, s.d, s.e, s.h, s.l, s.read (cat s.h s.l), s.a] z := by
  fin_cases z <;> rfl

theorem wr8_r8Operand (z : Fin 8) (v : Byte) (s : State) :
    wr8 (r8Operand z) v s =
      ![{ s with b := v }, { s with c := v }, { s with d := v }, { s with e := v }, { s with h := v }, { s with l := v },
        s.write (cat s.h s.l) v, { s with a := v }] z := by
  fin_cases z <;> rfl

/-- The address of an operand in the I/O page (spec/40_engine.md R81). -/
theorem resolve_ioImm8 (n : Byte) (s : State) : resolve (.ioImm8 n) s = .mem (cat 0xFF n) :=
  congrArg Resolved.mem (ioPage_eq n)

theorem resolve_ioC (s : State) : resolve .ioC s = .mem (cat 0xFF s.c) := congrArg Resolved.mem (ioPage_eq s.c)

theorem rd8_mem {x : Arg} {s : State} {a : Word} (h : resolve x s = .mem a) : rd8 x s = s.read a := by
  rw [rd8, h]; rfl

theorem wr8_mem {x : Arg} {s : State} {a : Word} (h : resolve x s = .mem a) (v : Byte) : wr8 x v s = s.write a v := by
  rw [wr8, h]; rfl

/-- Settles O23: `resolve` names the register or the address, which `rd8` reads and `wr8` writes. -/
theorem operandAccessors : Obligations.OperandAccessors := by
  intro z n v w s
  refine ⟨rd8_r8Operand z s, wr8_r8Operand z v s, fun rr => ⟨rd8_mem rfl, wr8_mem rfl v⟩, fun x hx => ?_, rfl, rfl,
    rd8_mem (resolve_ioImm8 n s), wr8_mem (resolve_ioImm8 n s) v, rd8_mem (resolve_ioC s), wr8_mem (resolve_ioC s) v,
    rd8_mem rfl, wr8_mem rfl v, rfl, rfl⟩
  have pointer : resolve x s = .mem (cat s.h s.l) := by
    simp only [List.mem_cons, List.not_mem_nil, or_false] at hx
    obtain rfl | rfl := hx <;> rfl
  exact ⟨rd8_mem pointer, wr8_mem pointer v⟩

/-! ### The kinds of step -/

/-- Settles O12: the wake condition and the dispatch condition both read `State.pending`. -/
theorem wakeAndDispatchConditions : Obligations.WakeAndDispatchConditions := by
  intro s irq sources
  have hp : s.pending = sources := rfl
  refine ⟨fun off => ?_, fun on => ?_, fun halted => if_pos halted, State.awake_of_not_halted, ?_⟩
  · rw [State.wakes, off]; rfl
  · rw [State.wakes, if_pos on, hp, bne_iff_ne]
  · simp [State.dispatchDue, hp, and_assoc]

theorem runStep_of_idle {s : State} (halted : s.mode = .halted) (hw : s.boundary.wakes s.hostInput.irqPending = false) :
    runStep s = .next (s.boundary.charge 1, 1) := by
  obtain ⟨-, -, h⟩ | ⟨h, -, -⟩ | ⟨h, -, -⟩ := runStep_cases s
  · exact h
  all_goals exact absurd ⟨halted, hw⟩ h

/-- The state in which a step that neither idles nor dispatches runs its instruction: past the boundary, awake, the
inhibit cleared (spec/40_engine.md R84). -/
def State.atFetch (s : State) : State := s.boundary.awake.clearInhibit

theorem runStep_of_runs {s : State} (hw : s.mode = .halted → s.boundary.wakes s.hostInput.irqPending = true)
    (hd : s.boundary.dispatchDue = false) : runStep s = runInstr s.atFetch := by
  obtain ⟨halted, h, -⟩ | ⟨-, h, -⟩ | ⟨-, -, h⟩ := runStep_cases s
  · simp [hw halted] at h
  · simp [hd] at h
  · exact h

/-- A dispatch out of Halted is a wake too: the option is on and a source is pending (spec/40_engine.md R90). -/
theorem State.wakes_of_dispatchDue {s : State} (h : s.dispatchDue = true) (irq : Bool) : s.wakes irq = true := by
  simp only [State.dispatchDue, Bool.and_eq_true] at h
  obtain ⟨⟨⟨on, -⟩, -⟩, pending⟩ := h
  rw [State.wakes, if_pos on, pending]

/-- Settles O11, by `runStep_of_idle`: the charge adds 1 to the counter, which the boundary leaves. -/
theorem haltedStepIdles : Obligations.HaltedStepIdles := by
  intro s halted hw
  have idle := runStep_of_idle halted hw
  exact ⟨idle, step_of_runStep idle⟩

theorem State.endBooting_eq (s : State) :
    s.endBooting = { s with mode := if s.mode = .booting ∧ s.bus.bootRomActive = false then .running else s.mode } := by
  unfold State.endBooting
  split <;> rfl

theorem runInstr_of_exec {s t : State} (h : exec s.fetch (s.advance s.fetch) = .next t) :
    runInstr s = .next (t.endBooting.charge (cost s.fetch s), cost s.fetch s) := by
  unfold runInstr
  simp only [h]

/-- Settles O9: `runStep_of_runs` is the wake and the cleared inhibit, `runInstr_of_exec` the instruction. -/
theorem stepRunsTheDecodedInstruction : Obligations.StepRunsTheDecodedInstruction := by
  rintro s _ t _ hw rfl hd rfl hx
  rw [State.dispatchDue_awake] at hd
  have run := step_of_runStep ((runStep_of_runs hw hd).trans (runInstr_of_exec hx))
  rw [State.endBooting_eq] at run
  exact run

/-! ### Every run is safe -/

theorem exec_answers (i : Instr) (s : State) : ∃ t, exec i s = .next t := by
  by_cases hw : i.wellFormed = true
  · exact ⟨_, exec_eq_executeRecord hw s⟩
  · obtain ⟨sel, rfl⟩ := eq_prefix_cb_of_not_wellFormed hw
    exact ⟨extended sel s, rfl⟩

theorem runInstr_answers (s : State) : ∃ t n, runInstr s = .next (t, n) := by
  obtain ⟨t, -, -, -, run⟩ := runInstr_spec s
  exact ⟨_, _, run⟩

theorem step_answers (s : State) : ∃ t, step s = .next t := by
  obtain ⟨-, -, h⟩ | ⟨-, -, h⟩ | ⟨-, -, h⟩ := runStep_cases s
  · exact ⟨_, step_of_runStep h⟩
  · exact ⟨_, step_of_runStep h⟩
  · obtain ⟨t, n, run⟩ := runInstr_answers s.atFetch
    exact ⟨t, step_of_runStep (h.trans run)⟩

theorem safeRun (k : Nat) (s : State) : SafeRun k s := by
  induction k generalizing s with
  | zero => exact ⟨s, rfl⟩
  | succ k ih =>
    obtain ⟨t, h⟩ := step_answers s
    obtain ⟨u, hu⟩ := ih t
    exact ⟨u, by rw [steps, h]; exact hu⟩

/-- Settles O10: every instruction answers (`exec_answers`), so every step does, and `safeRun` is the induction. -/
theorem everyRunIsSafe : Obligations.EveryRunIsSafe := ⟨exec_answers, safeRun⟩

/-! ### The control part over a step -/

theorem State.atFetch_fetch (s : State) : s.atFetch.fetch = s.boundary.fetch := by
  simp [State.atFetch, State.fetch, State.read]

/-- Past the wake no step is in Halted (spec/40_engine.md R88). -/
theorem State.awake_mode_ne_halted (s : State) : s.awake.mode ≠ .halted := by
  rw [State.awake_mode]
  split
  · unfold State.awakeMode
    split <;> decide
  · assumption

/-- Only the kinds of HALT and STOP write Halted. -/
theorem Control.kind_of_after_halted {c : Control} {k : Kind} (h : (c.after k).mode = .halted) (hc : c.mode ≠ .halted) :
    k = .halt ∨ k = .stop := by
  by_contra! hk
  exact hc (by rw [← h, Control.after_mode c hk.1 hk.2])

/-- No kind writes Booting. -/
theorem Control.mode_of_after_booting {c : Control} {k : Kind} (h : (c.after k).mode = .booting) : c.mode = .booting := by
  cases k
  case halt | stop => cases h
  all_goals exact h

/-- What one instruction leaves: the control part its kind says, and then the end of Booting. -/
theorem runInstr_control {s t : State} {n : Nat} (h : runInstr s = .next (t, n)) :
    ∃ u : State, u.control = s.control.after s.fetch.record.kind ∧ t = u.endBooting.charge n := by
  obtain ⟨u, hu, -, -, run⟩ := runInstr_spec s
  rw [run] at h
  cases h
  exact ⟨u, hu ▸ executeRecord_control _ _, rfl⟩

theorem runInstr_ime {s t : State} {n : Nat} (h : runInstr s = .next (t, n)) :
    t.ime = (s.control.after s.fetch.record.kind).ime := by
  obtain ⟨u, control, rfl⟩ := runInstr_control h
  rw [← control, State.charge_ime, State.endBooting_ime]
  rfl

theorem runInstr_eiInhibit {s t : State} {n : Nat} (h : runInstr s = .next (t, n)) :
    t.eiInhibit = (s.control.after s.fetch.record.kind).eiInhibit := by
  obtain ⟨u, control, rfl⟩ := runInstr_control h
  rw [← control, State.charge_eiInhibit, State.endBooting_eiInhibit]
  rfl

/-- The end of Booting changes Booting to Running alone (spec/40_engine.md R88). -/
theorem runInstr_mode {s t : State} {n : Nat} (h : runInstr s = .next (t, n)) :
    t.mode = (s.control.after s.fetch.record.kind).mode ∧ (t.mode = .booting → t.bus.bootRomActive = true) ∨
      t.mode = .running := by
  obtain ⟨u, control, rfl⟩ := runInstr_control h
  rw [← control, State.charge_mode, State.charge_bus, State.endBooting_mode, State.endBooting_bus]
  split
  next => exact .inr rfl
  next goesOn => exact .inl ⟨rfl, fun hb => by simpa [hb] using goesOn⟩

/-- An instruction ends in Booting only from Booting, and only with the boot ROM mapped (spec/40_engine.md R88). -/
theorem runInstr_booting {s t : State} {n : Nat} (h : runInstr s = .next (t, n)) (hb : t.mode = .booting) :
    s.mode = .booting ∧ t.bus.bootRomActive = true := by
  obtain ⟨after, mapped⟩ | running := runInstr_mode h
  · exact ⟨Control.mode_of_after_booting (after.symm.trans hb), mapped hb⟩
  · simp [hb] at running

/-- Only HALT and STOP enter Halted (spec/40_engine.md R88). -/
theorem runInstr_halted {s t : State} {n : Nat} (h : runInstr s = .next (t, n)) (hs : s.mode ≠ .halted)
    (ht : t.mode = .halted) : s.fetch.record.kind = .halt ∨ s.fetch.record.kind = .stop := by
  obtain ⟨after, -⟩ | running := runInstr_mode h
  · exact Control.kind_of_after_halted (after.symm.trans ht) hs
  · simp [ht] at running

theorem State.awake_mode_of_running {s : State} (h : s.mode = .running) : s.awake.mode = .running := by
  rw [State.awake_of_not_halted (by simp [h]), h]

theorem State.atFetch_mode_ne_halted (s : State) : s.atFetch.mode ≠ .halted := State.awake_mode_ne_halted _

/-- Settles O14. An idle step keeps Halted, a dispatch changes the mode by the wake alone, and an instruction as
`runInstr_booting` and `runInstr_halted` say; that Running ends with the boot ROM unmapped is the invariant's. -/
theorem modeTransitions : Obligations.ModeTransitions := by
  intro s t hinv hs
  obtain ⟨n, hr⟩ := runStep_of_step hs
  have unmapped := (runStep_inv hinv hr).runningUnmapped
  have began : s.mode = .running → s.atFetch.mode = .running := State.awake_mode_of_running (s := s.boundary)
  obtain ⟨halted, hw, e⟩ | ⟨-, hd, e⟩ | ⟨woken, hd, e⟩ := runStep_cases s <;> rw [e] at hr
  case inl =>
    have stays : t.mode = .halted := by cases hr; exact halted
    refine ⟨fun h => ?_, unmapped, fun wakes => ?_, fun _ h => absurd stays h, fun h => ?_, fun due => ?_⟩
    · simp [halted] at h
    · simp [wakes halted] at hw
    · simp [stays] at h
    · simp [State.wakes_of_dispatchDue due] at hw
  case inr.inl =>
    have mode : t.mode = s.atFetch.mode := by cases hr; rw [State.charge_mode, State.dispatch_mode, State.atFetch]
    refine ⟨fun h => ?_, unmapped, fun _ h => ?_, fun _ _ => State.wakes_of_dispatchDue hd _, fun _ h => ?_, fun _ => mode⟩
    · simp [mode, began h]
    · exact absurd (mode.symm.trans h) s.atFetch_mode_ne_halted
    · simp [hd] at h
  case inr.inr =>
    refine ⟨fun h booting => ?_, unmapped, fun _ h => ?_, fun halted _ => ?_, fun h _ => (runInstr_booting hr h).2,
      fun h => ?_⟩
    · have : s.atFetch.mode = .booting := (runInstr_booting hr booting).1
      simp [began h] at this
    · rw [← State.atFetch_fetch]
      exact runInstr_halted hr s.atFetch_mode_ne_halted h
    · simpa [halted] using woken
    · simp [hd] at h

/-! ### EI, DI and RETI -/

theorem eq_ei_of_kind {i : Instr} (h : i.record.kind = .ei) : i = .ei := by
  cases i
  case ei => rfl
  all_goals cases h

theorem eq_di_of_kind {i : Instr} (h : i.record.kind = .di) : i = .di := by
  cases i
  case di => rfl
  all_goals cases h

/-- Only DI clears IME (spec/10_state.md R24). -/
theorem Control.after_ime_set {c : Control} (hc : c.ime = true) {k : Kind} (hd : k ≠ .di) : (c.after k).ime = true := by
  cases k
  case di => contradiction
  case ei | reti => rfl
  all_goals exact hc

/-- With IME set and no inhibit, a check dispatches whenever the option is on and a source is pending
(spec/60_exceptions.md R181). -/
theorem State.dispatchDue_of_enabled {s : State} (hime : s.ime = true) (he : s.eiInhibit = false) :
    s.boundary.dispatchDue = (s.irqDispatch && s.boundary.pending != 0) := by
  simp [State.dispatchDue, hime, he]

/-- A step that neither idles nor dispatches runs one instruction, past the boundary, the wake and the inhibit. -/
theorem step_runs {s t : State} (hw : s.mode = .halted → s.boundary.wakes s.hostInput.irqPending = true)
    (hd : s.boundary.dispatchDue = false) (hs : step s = .next t) : ∃ n, runInstr s.atFetch = .next (t, n) := by
  obtain ⟨n, hr⟩ := runStep_of_step hs
  exact ⟨n, runStep_of_runs hw hd ▸ hr⟩

/-- While IME is clear or the inhibit is set, the next step of a CPU outside Halted runs the instruction at PC
(spec/40_engine.md R84; spec/46_system.md R171, R172). -/
theorem runsNext_of_disabled {s : State} (hm : s.mode ≠ .halted) (h : s.ime = false ∨ s.eiInhibit = true) :
    ∃ u n, runInstr s.boundary.clearInhibit = .next (u, n) ∧ step s = .next u := by
  have hd : s.boundary.dispatchDue = false := by obtain h | h := h <;> simp [State.dispatchDue, h]
  obtain ⟨u, n, run⟩ := runInstr_answers s.boundary.clearInhibit
  have runs := runStep_of_runs (fun halted => absurd halted hm) hd
  rw [State.atFetch, State.awake_of_not_halted (s := s.boundary) hm, run] at runs
  exact ⟨u, n, run, step_of_runStep runs⟩

/-- The instruction after EI, begun with IME set and the inhibit cleared (spec/46_system.md R171, R172). -/
theorem runInstr_after_ei {t u : State} {n : Nat} (ime : t.ime = true)
    (run : runInstr t.boundary.clearInhibit = .next (u, n)) :
    (t.boundary.fetch = .ei → u.ime = true ∧ u.eiInhibit = true) ∧
    (t.boundary.fetch = .di → u.ime = false) ∧
    (t.boundary.fetch ≠ .ei → u.eiInhibit = false) ∧
    (t.boundary.fetch ≠ .ei → t.boundary.fetch ≠ .di →
      u.boundary.dispatchDue = (u.irqDispatch && u.boundary.pending != 0)) := by
  have imeAfter := runInstr_ime run
  have inhibitAfter := runInstr_eiInhibit run
  have fetch : t.boundary.clearInhibit.fetch = t.boundary.fetch := rfl
  rw [fetch] at imeAfter inhibitAfter
  have cleared (h : t.boundary.fetch ≠ .ei) : u.eiInhibit = false :=
    inhibitAfter.trans (Control.after_eiInhibit _ fun hk => h (eq_ei_of_kind hk))
  refine ⟨fun h => ?_, fun h => ?_, cleared, fun he hdi => ?_⟩
  · rw [h] at imeAfter inhibitAfter
    exact ⟨imeAfter, inhibitAfter⟩
  · rw [h] at imeAfter
    exact imeAfter
  · have imeKept : u.ime = true := imeAfter.trans (Control.after_ime_set ime fun hk => hdi (eq_di_of_kind hk))
    exact State.dispatchDue_of_enabled imeKept (cleared he)

/-- Settles O60. The control part after each of the three follows its kind (`runInstr_ime`, `runInstr_eiInhibit`); the
inhibit after EI and the cleared IME after DI hold off the next check, and after RETI nothing does. -/
theorem eiDiAndRetiTiming : Obligations.EiDiAndRetiTiming := by
  intro s t hw hd hs
  obtain ⟨n, run⟩ := step_runs hw hd hs
  have ime := runInstr_ime run
  have inhibit := runInstr_eiInhibit run
  have halted := runInstr_halted run s.atFetch_mode_ne_halted
  rw [State.atFetch_fetch] at ime inhibit halted
  refine ⟨fun h => ?_, fun h => ?_, fun h => ?_⟩ <;> rw [h] at ime inhibit halted
  · obtain ⟨u, n, runNext, stepNext⟩ := runsNext_of_disabled (fun hm => absurd (halted hm) (by decide)) (.inr inhibit)
    exact ⟨ime, inhibit, u, n, runNext, stepNext, runInstr_after_ei ime runNext⟩
  · exact ⟨ime, runsNext_of_disabled (fun hm => absurd (halted hm) (by decide)) (.inl ime)⟩
  · exact ⟨ime, inhibit, State.dispatchDue_of_enabled ime inhibit⟩

end Sys2Proof.Machine

namespace Sys2Proof.Machine

/-! ### Loads -/

/-- A row of the tables that is no conditional transfer runs the execute phase of its record, at the record's length and
base cost (spec/40_engine.md R84, R87). -/
theorem runs_decode3 {b0 b1 b2 : Byte} {r : Record} {s t : State} (row : (decode3 b0 b1 b2).record = r)
    (execute : executeRecord r s = t) (plain : r.takenExtra = 0 := by rfl) :
    Runs (decode3 b0 b1 b2) s t r.length r.cycles := by
  subst row execute
  exact ⟨exec_eq_executeRecord (decode3_wellFormed b0 b1 b2) s, rfl, by simp [cost, plain]⟩

theorem postAccess_of_plain {x : Arg} (h : accessWrites x = []) (s : State) : postAccess x s = s := by
  cases x
  case ptrInc | ptrDec => cases h
  all_goals rfl

/-- A byte load at a memory location runs as `ld8`: it is not LD (a16),SP. -/
theorem executeRecord_ld_mem {x y : Arg} {s : State} {a : Word} (hx : resolve x s = .mem a) (hy : ∀ rr, y ≠ .r16 rr)
    (o : Opcode) (len n extra : Nat) : executeRecord ⟨o, .ld, x, y, len, n, extra⟩ s = ld8 x y s := by
  cases x
  case r16 => cases hx
  case ptrImm16 =>
    cases y
    case r16 rr => exact absurd rfl (hy rr)
    all_goals rfl
  all_goals rfl

/-- A load into a register, from an operand that is no post-incremented or post-decremented HL. -/
theorem runs_load {b0 b1 b2 : Byte} {o : Opcode} {dst : Reg8} {y : Arg} {len n : Nat} {s : State} {v : Byte}
    (row : (decode3 b0 b1 b2).record = ⟨o, .ld, .r8 dst, y, len, n, 0⟩) (hy : rd8 y s = v)
    (plain : accessWrites y = [] := by rfl) : Runs (decode3 b0 b1 b2) s (s.setReg8 dst v) len n := by
  subst hy
  exact runs_decode3 row (postAccess_of_plain plain _)

/-- A store of a byte, where neither operand is a post-incremented or post-decremented HL. -/
theorem runs_store {b0 b1 b2 : Byte} {o : Opcode} {x y : Arg} {len n : Nat} {s : State} {a : Word} {v : Byte}
    (row : (decode3 b0 b1 b2).record = ⟨o, .ld, x, y, len, n, 0⟩) (hx : resolve x s = .mem a) (hy : rd8 y s = v)
    (byteSource : ∀ rr, y ≠ .r16 rr := by nofun) (plainLhs : accessWrites x = [] := by rfl)
    (plainRhs : accessWrites y = [] := by rfl) : Runs (decode3 b0 b1 b2) s (s.write a v) len n := by
  refine runs_decode3 row ?_
  rw [executeRecord_ld_mem hx byteSource, ld8, wr8_mem hx, hy, postAccess_of_plain plainRhs,
    postAccess_of_plain plainLhs]

/-- The rows `01 yyy zzz` of registers (spec/41_loads.md R93). -/
theorem record_ld_reg8_reg8 (dst src : Reg8) (b1 b2 : Byte) :
    (decode3 (op (0x40 + 8 * regField dst + regField src)) b1 b2).record =
      ⟨.base (op (0x40 + 8 * regField dst + regField src)), .ld, .r8 dst, .r8 src, 1, 1, 0⟩ := by
  cases dst <;> cases src <;> rfl

/-- The rows `01 yyy 110` (spec/41_loads.md R94). -/
theorem record_ld_reg8_mhl (dst : Reg8) (b1 b2 : Byte) :
    (decode3 (op (0x46 + 8 * regField dst)) b1 b2).record =
      ⟨.base (op (0x46 + 8 * regField dst)), .ld, .r8 dst, .ptr .hl, 1, 2, 0⟩ := by
  cases dst <;> rfl

/-- The rows `01 110 zzz` (spec/41_loads.md R95). -/
theorem record_ld_mhl_reg8 (src : Reg8) (b1 b2 : Byte) :
    (decode3 (op (0x70 + regField src)) b1 b2).record =
      ⟨.base (op (0x70 + regField src)), .ld, .ptr .hl, .r8 src, 1, 2, 0⟩ := by
  cases src <;> rfl

/-- The rows `00 yyy 110` (spec/41_loads.md R96). -/
theorem record_ld_reg8_imm8 (dst : Reg8) (b1 b2 : Byte) :
    (decode3 (op (0x06 + 8 * regField dst)) b1 b2).record =
      ⟨.base (op (0x06 + 8 * regField dst)), .ld, .r8 dst, .imm8 b1, 2, 2, 0⟩ := by
  cases dst <;> rfl

/-- Settles O34: each row loads a register or stores a byte. The operand is read before the register is written, so
LD H,(HL) and LD L,(HL) read at the old HL. -/
theorem eightBitLoads : Obligations.EightBitLoads := by
  intro dst src b1 b2 s
  exact ⟨runs_load (record_ld_reg8_reg8 dst src b1 b2) rfl, runs_load (record_ld_reg8_mhl dst b1 b2) (rd8_mem rfl),
    runs_store (record_ld_mhl_reg8 src b1 b2) rfl rfl, runs_load (record_ld_reg8_imm8 dst b1 b2) rfl,
    runs_store rfl rfl rfl⟩

/-- Settles O35: BC and DE stay, and the four rows of a moving HL are `ld8` with its `postAccess`, as R81 gives it. -/
theorem accumulatorPointerLoads : Obligations.AccumulatorPointerLoads := by
  intro b1 b2 s
  exact ⟨runs_load (dst := .a) rfl (rd8_mem rfl), runs_load (dst := .a) rfl (rd8_mem rfl), runs_store rfl rfl rfl,
    runs_store rfl rfl rfl, runs_decode3 rfl rfl, runs_decode3 rfl rfl, runs_decode3 rfl rfl, runs_decode3 rfl rfl⟩

/-- Settles O36: `resolve_ioImm8` and `resolve_ioC` are the addresses in the I/O page. -/
theorem absoluteAndIoPageLoads : Obligations.AbsoluteAndIoPageLoads := by
  intro b1 b2 s
  exact ⟨runs_load (dst := .a) rfl (rd8_mem rfl), runs_store rfl rfl rfl,
    runs_load (dst := .a) rfl (rd8_mem (resolve_ioImm8 b1 s)), runs_store rfl (resolve_ioImm8 b1 s) rfl,
    runs_load (dst := .a) rfl (rd8_mem (resolve_ioC s)), runs_store rfl (resolve_ioC s) rfl⟩

/-- The rows `00 pp0 001` (spec/41_loads.md R110). -/
theorem record_ld_reg16_imm16 (p : Fin 4) (b1 b2 : Byte) :
    (decode3 (op (0x01 + 16 * p)) b1 b2).record =
      ⟨.base (op (0x01 + 16 * p)), .ld, .r16 (rpField p), .imm16 (cat b2 b1), 3, 3, 0⟩ := by
  fin_cases p <;> rfl

theorem executeRecord_ld16 (o : Opcode) (rr : Reg16) (w : Word) (len n x : Nat) (s : State) :
    executeRecord ⟨o, .ld, .r16 rr, .imm16 w, len, n, x⟩ s = s.setReg16 rr w := by
  cases rr <;> rfl

/-- Settles O37: the word is the immediate or HL, and LD (a16),SP is the 16-bit write of R44. -/
theorem sixteenBitLoads : Obligations.SixteenBitLoads := by
  intro p b1 b2 s
  exact ⟨runs_decode3 (record_ld_reg16_imm16 p b1 b2) (executeRecord_ld16 ..), runs_decode3 rfl rfl,
    runs_decode3 rfl rfl⟩

/-- Settles O38: both are `addsp`, whose closed form `addsp_eq` gives the sum and the two carries. -/
theorem stackPointerOffsets : Obligations.StackPointerOffsets := by
  intro b1 b2 s r f
  have loaded : ldHlSp b1 s = { s with h := hi r, l := lo r, f := f } := by
    rw [ldHlSp, addsp_eq]; rfl
  have added : addSp (.simm8 b1) s = { s with sp := r, f := f } := by
    rw [addSp, show rd8 (.simm8 b1) s = b1 from rfl, addsp_eq]; rfl
  exact ⟨runs_decode3 rfl loaded, runs_decode3 rfl added⟩

/-- The rows `11 pp0 101` (spec/41_loads.md R114). -/
theorem record_push (p : Fin 4) (b1 b2 : Byte) :
    (decode3 (op (0xC5 + 16 * p)) b1 b2).record =
      ⟨.base (op (0xC5 + 16 * p)), .push, .r16 (rp2Field p), .none, 1, 4, 0⟩ := by
  fin_cases p <;> rfl

/-- Settles O39, by `push16_eq`. -/
theorem pushStoresThePair : Obligations.PushStoresThePair := fun p b1 b2 s =>
  runs_decode3 (record_push p b1 b2) (push16_eq s _)

theorem pop_eq (rr : Reg16) (s : State) :
    pop rr s = { s with sp := s.sp + 2 }.setReg16 rr (cat (s.read (s.sp + 1)) (s.read s.sp)) := by
  rw [pop, pop16_eq]

/-- Settles O40: the pair takes the word popped (`pop_eq`), each half its own byte, and `setF` masks F. -/
theorem popLoadsThePair : Obligations.PopLoadsThePair := by
  intro b1 b2 s low high
  refine ⟨runs_decode3 rfl ((pop_eq .bc s).trans ?_), runs_decode3 rfl ((pop_eq .de s).trans ?_),
    runs_decode3 rfl ((pop_eq .hl s).trans ?_), runs_decode3 rfl ((pop_eq .af s).trans ?_)⟩ <;>
    simp [State.setReg16, State.setF, low, high]

end Sys2Proof.Machine

namespace Sys2Proof.Machine

/-! ### The 8-bit ALU -/

/-- The operation kinds of the field `ooo` (spec/42_alu8.md R119). -/
def aluKind : Fin 8 → Kind := ![.add, .adc, .sub, .sbc, .and, .xor, .or, .cp]

/-- Their meanings (spec/42_alu8.md R120 to R127). -/
def aluOperation : Fin 8 → Arg → State → State := ![addA, adcA, subA, sbcA, andA, xorA, orA, cpA]

theorem executeRecord_alu (y : Fin 8) (o : Opcode) (x : Arg) (len n extra : Nat) (s : State) :
    executeRecord ⟨o, aluKind y, .r8 .a, x, len, n, extra⟩ s = aluOperation y x s := by
  fin_cases y <;> rfl

/-- The rows `10 ooo zzz` (spec/42_alu8.md R119). -/
theorem record_alu_r8 (y z : Fin 8) (b1 b2 : Byte) :
    (decode3 (op (0x80 + 8 * y + z)) b1 b2).record =
      ⟨.base (op (0x80 + 8 * y + z)), aluKind y, .r8 .a, r8Operand z, 1, if z = 6 then 2 else 1, 0⟩ := by
  fin_cases y <;> fin_cases z <;> rfl

/-- The rows `11 ooo 110` (spec/42_alu8.md R119). -/
theorem record_alu_imm8 (y : Fin 8) (b1 b2 : Byte) :
    (decode3 (op (0xC6 + 8 * y)) b1 b2).record =
      ⟨.base (op (0xC6 + 8 * y)), aluKind y, .r8 .a, .imm8 b1, 2, 2, 0⟩ := by
  fin_cases y <;> rfl

/-- Every form of an ALU operation runs its meaning on an operand that reads as the source byte. -/
theorem runs_alu (y : Fin 8) {o b1 b2 src : Byte} {s t : State} {len n : Nat}
    (meaning : ∀ x, rd8 x s = src → aluOperation y x s = t) (form : AluForm y o b1 s src len n) :
    Runs (decode3 o b1 b2) s t len n := by
  obtain ⟨z, rfl, rfl, rfl, rfl⟩ | ⟨rfl, rfl, rfl, rfl⟩ := form
  · exact runs_decode3 (record_alu_r8 y z b1 b2) ((executeRecord_alu ..).trans (meaning _ rfl))
  · exact runs_decode3 (record_alu_imm8 y src b2) ((executeRecord_alu ..).trans (meaning _ rfl))

/-- `add8` without a carry-in: the addition of ADD (spec/42_alu8.md R120). -/
theorem add8_false (a b : Byte) : add8 a b false =
    { r := a + b
      z := decide (a + b = 0)
      h := decide (16 ≤ a.toNat % 16 + b.toNat % 16)
      c := decide (256 ≤ a.toNat + b.toNat) } := by
  simp [add8_eq, bit]

/-- Settles O41: both are `add8` of A and the source byte, whose closed form is `add8_eq`. -/
theorem additionAndItsFlags : Obligations.AdditionAndItsFlags := by
  intro o b1 b2 src s len n
  refine ⟨runs_alu 0 fun x hx => ?_, runs_alu 1 fun x hx => ?_⟩ <;> subst hx
  · show addA x s = _
    rw [addA, add8_false]
    rfl
  · show adcA x s = _
    rw [adcA, add8_eq]
    rfl

/-- `sub8` without a borrow-in: Z, the test of the difference for zero, compares the bytes (spec/42_alu8.md R122, R124). -/
theorem sub8_false (a b : Byte) : sub8 a b false =
    { r := a - b
      z := decide (a = b)
      h := decide (a.toNat % 16 < b.toNat % 16)
      c := decide (a.toNat < b.toNat) } := by
  have zero_iff : a - b = 0 ↔ a = b := sub_eq_zero
  simp [sub8_eq, bit, ← zero_iff]

/-- Settles O42: all three are `sub8` of A and the source byte, whose closed form is `sub8_eq`. -/
theorem subtractionAndItsFlags : Obligations.SubtractionAndItsFlags := by
  intro o b1 b2 src s len n f
  refine ⟨runs_alu 2 fun x hx => ?_, runs_alu 3 fun x hx => ?_, runs_alu 7 fun x hx => ?_⟩ <;> subst hx
  · show subA x s = _
    rw [subA, sub8_false]
    rfl
  · show sbcA x s = _
    rw [sbcA, sub8_eq]
    rfl
  · show cpA x s = _
    rw [cpA, sub8_false]
    rfl

/-- Settles O43: Z of XOR and OR is a test of the result for zero. -/
theorem logicAndItsFlags : Obligations.LogicAndItsFlags := by
  intro o b1 b2 src s len n
  refine ⟨runs_alu 4 fun x hx => ?_, runs_alu 5 fun x hx => ?_, runs_alu 6 fun x hx => ?_⟩ <;> subst hx
  · rfl
  · show xorA x s = _
    have equal : (s.a ^^^ rd8 x s == 0) = decide (s.a = rd8 x s) := by
      rw [beq_eq_decide, decide_eq_decide]; exact BitVec.xor_eq_zero_iff
    rw [xorA, equal]
    rfl
  · show orA x s = _
    have bothZero : (s.a ||| rd8 x s == 0) = decide (s.a = 0 ∧ rd8 x s = 0) := by
      rw [beq_eq_decide, decide_eq_decide]; exact BitVec.or_eq_zero_iff
    rw [orA, bothZero]
    rfl

/-- The rows `00 zzz 100` (spec/42_alu8.md R128, R129). -/
theorem record_inc8 (z : Fin 8) (b1 b2 : Byte) :
    (decode3 (op (0x04 + 8 * z)) b1 b2).record =
      ⟨.base (op (0x04 + 8 * z)), .inc, r8Operand z, .none, 1, if z = 6 then 3 else 1, 0⟩ := by
  fin_cases z <;> rfl

/-- The rows `00 zzz 101` (spec/42_alu8.md R130, R131). -/
theorem record_dec8 (z : Fin 8) (b1 b2 : Byte) :
    (decode3 (op (0x05 + 8 * z)) b1 b2).record =
      ⟨.base (op (0x05 + 8 * z)), .dec, r8Operand z, .none, 1, if z = 6 then 3 else 1, 0⟩ := by
  fin_cases z <;> rfl

theorem executeRecord_inc8 (z : Fin 8) (o : Opcode) (len n extra : Nat) (s : State) :
    executeRecord ⟨o, .inc, r8Operand z, .none, len, n, extra⟩ s = inc8 (r8Operand z) s := by
  fin_cases z <;> rfl

theorem executeRecord_dec8 (z : Fin 8) (o : Opcode) (len n extra : Nat) (s : State) :
    executeRecord ⟨o, .dec, r8Operand z, .none, len, n, extra⟩ s = dec8 (r8Operand z) s := by
  fin_cases z <;> rfl

theorem add8_one (v : Byte) : add8 v 1 false =
    { r := v + 1, z := decide (v = 0xFF), h := decide (v.toNat % 16 = 15), c := decide (v = 0xFF) } := by
  revert v; decide

theorem sub8_one (v : Byte) : sub8 v 1 false =
    { r := v - 1, z := decide (v = 0x01), h := decide (v.toNat % 16 = 0), c := decide (v = 0) } := by
  revert v; decide

@[simp] theorem wr8_cf (s : State) (x : Arg) (v : Byte) : (wr8 x v s).cf = s.cf := by
  rw [State.cf, wr8_f, State.cf]

/-- Settles O44: they are `add8` and `sub8` of the byte and 1, and the write of the byte keeps C (`wr8_cf`). -/
theorem incrementAndDecrementBytes : Obligations.IncrementAndDecrementBytes := by
  intro z b1 b2 s v n
  refine ⟨runs_decode3 (record_inc8 z b1 b2) ((executeRecord_inc8 ..).trans ?_),
    runs_decode3 (record_dec8 z b1 b2) ((executeRecord_dec8 ..).trans ?_)⟩
  · rw [inc8, add8_one, State.flags, Option.getD_none, wr8_cf]
    rfl
  · rw [dec8, sub8_one, State.flags, Option.getD_none, wr8_cf]
    rfl

/-- Settles O45: the flags are those of the three meanings, and XOR with 0xFF is the complement. -/
theorem complementAndCarryFlag : Obligations.ComplementAndCarryFlag := by
  intro b1 b2 s
  have complement : cpl s = { s with a := ~~~s.a, f := flagByte s.zf true true s.cf } := by
    rw [cpl, show (0xFF : Byte) = BitVec.allOnes 8 from rfl, BitVec.xor_allOnes]
    rfl
  exact ⟨runs_decode3 rfl complement, runs_decode3 rfl rfl, runs_decode3 rfl rfl⟩

/-- Settles O46: `daaAdjust_eq` is the adjustment as one number. -/
theorem decimalAdjust : Obligations.DecimalAdjust := by
  intro b1 b2 s low high r
  refine runs_decode3 rfl ?_
  show daa s = _
  rw [daa, daaAdjust_eq]
  rfl

/-! ### Packed decimal -/

/-- A byte whose nibbles are two decimal digits. -/
theorem bcd_of_digits {v : Byte} {tens ones : Nat} (digits : v.toNat = 16 * (tens % 10) + ones % 10) :
    isBcd v ∧ bcdValue v = 10 * (tens % 10) + ones % 10 := by
  unfold isBcd bcdValue
  omega

/-- The adjustment of what ADD leaves: 6 where the ones make 10 or more, and 0x60 where the tens do, with the carry from the
ones (spec/42_alu8.md R120, R132). -/
theorem daaAdjust_add8 {a x : Byte} (ha : isBcd a) (hx : isBcd x) :
    let y := add8 a x false
    let ones := a.toNat % 16 + x.toNat % 16
    let tens := a.toNat / 16 + x.toNat / 16 + ones / 10
    daaAdjust y.r false y.h y.c =
      (a + x + BitVec.ofNat 8 ((if 10 ≤ tens then 0x60 else 0) + if 10 ≤ ones then 6 else 0), decide (10 ≤ tens)) := by
  obtain ⟨haTens, haOnes⟩ := ha
  obtain ⟨hxTens, hxOnes⟩ := hx
  intro y ones tens
  have sum : (a + x).toNat = (a.toNat + x.toNat) % 256 := BitVec.toNat_add a x
  have low : (16 ≤ a.toNat % 16 + x.toNat % 16 ∨ 9 < (a + x).toNat % 16) ↔ 10 ≤ ones := by omega
  have high : (256 ≤ a.toNat + x.toNat ∨ 0x99 < (a + x).toNat) ↔ 10 ≤ tens := by omega
  simp only [y, add8_false, daaAdjust_eq, decide_eq_true_eq, true_and, low, high]
  simp

/-- The adjustment of what SUB leaves: 6 where the ones borrowed, and 0x60 where the tens did (spec/42_alu8.md R122,
R132). -/
theorem daaAdjust_sub8 (a x : Byte) :
    let y := sub8 a x false
    daaAdjust y.r true y.h y.c =
      (a - x - BitVec.ofNat 8 ((if a.toNat < x.toNat then 0x60 else 0) + if a.toNat % 16 < x.toNat % 16 then 6 else 0),
        decide (a.toNat < x.toNat)) := by
  simp [sub8_false, daaAdjust_eq]

/-- DAA after ADD leaves the packed decimal sum. -/
theorem daaAdjust_add8_bcd {a x : Byte} (ha : isBcd a) (hx : isBcd x) :
    let y := add8 a x false
    let r := daaAdjust y.r false y.h y.c
    isBcd r.1 ∧ bcdValue r.1 + 100 * bit r.2 = bcdValue a + bcdValue x := by
  intro y r
  have adjusted : r = _ := daaAdjust_add8 ha hx
  obtain ⟨haTens, haOnes⟩ := ha
  obtain ⟨hxTens, hxOnes⟩ := hx
  obtain ⟨ones, hones⟩ : ∃ n, n = a.toNat % 16 + x.toNat % 16 := ⟨_, rfl⟩
  obtain ⟨tens, htens⟩ : ∃ n, n = a.toNat / 16 + x.toNat / 16 + ones / 10 := ⟨_, rfl⟩
  rw [← hones, ← htens] at adjusted
  have carry : bit r.2 = tens / 10 := by
    rw [adjusted, bit]
    simp only [decide_eq_true_eq]
    split_ifs <;> omega
  have digits : r.1.toNat = 16 * (tens % 10) + ones % 10 := by
    rw [adjusted]
    simp only [BitVec.toNat_add, BitVec.toNat_ofNat]
    split_ifs <;> omega
  obtain ⟨bcd, value⟩ := bcd_of_digits digits
  refine ⟨bcd, ?_⟩
  rw [value, carry]
  unfold bcdValue
  omega

/-- DAA after SUB leaves the packed decimal difference. A digit that borrows makes less than 10 when 10 is lent to it. -/
theorem daaAdjust_sub8_bcd {a x : Byte} (ha : isBcd a) (hx : isBcd x) :
    let y := sub8 a x false
    let r := daaAdjust y.r true y.h y.c
    isBcd r.1 ∧ bcdValue r.1 + bcdValue x = bcdValue a + 100 * bit r.2 := by
  intro y r
  have adjusted : r = _ := daaAdjust_sub8 a x
  obtain ⟨haTens, haOnes⟩ := ha
  obtain ⟨hxTens, hxOnes⟩ := hx
  obtain ⟨ones, hones⟩ : ∃ n, n = a.toNat % 16 + 10 - x.toNat % 16 := ⟨_, rfl⟩
  obtain ⟨tens, htens⟩ : ∃ n, n = a.toNat / 16 + 9 - x.toNat / 16 + ones / 10 := ⟨_, rfl⟩
  have borrow : bit r.2 = 1 - tens / 10 := by
    rw [adjusted, bit]
    simp only [decide_eq_true_eq]
    split_ifs <;> omega
  have digits : r.1.toNat = 16 * (tens % 10) + ones % 10 := by
    rw [adjusted]
    simp only [BitVec.toNat_sub, BitVec.toNat_ofNat]
    split_ifs <;> omega
  obtain ⟨bcd, value⟩ := bcd_of_digits digits
  refine ⟨bcd, ?_⟩
  rw [value, borrow]
  unfold bcdValue
  omega

@[simp] theorem State.setAcc_a (s : State) (r : Byte) (z n h c : Bool) : (s.setAcc r z n h c).a = r := rfl
@[simp] theorem State.setAcc_nf (s : State) (r : Byte) (z n h c : Bool) : (s.setAcc r z n h c).nf = n := flagByte_n ..
@[simp] theorem State.setAcc_hf (s : State) (r : Byte) (z n h c : Bool) : (s.setAcc r z n h c).hf = h := flagByte_h ..
@[simp] theorem State.setAcc_cf (s : State) (r : Byte) (z n h c : Bool) : (s.setAcc r z n h c).cf = c := flagByte_c ..

theorem Runs.eq_of_answers {i : Instr} {s t u : State} {len n : Nat} (run : Runs i s t len n)
    (answer : exec i s = .next u) : t = u :=
  Host.Outcome.next.inj (run.answers.symm.trans answer)

/-- DAA after a write of A and the flags adjusts that A by those flags. -/
theorem daa_setAcc {b1 b2 : Byte} {s t : State} {r : Byte} {z n h c : Bool}
    (answer : exec (decode3 0x27 b1 b2) (s.setAcc r z n h c) = .next t) :
    t.a = (daaAdjust r n h c).1 ∧ t.cf = (daaAdjust r n h c).2 := by
  obtain rfl : daa (s.setAcc r z n h c) = t := (runs_decode3 rfl rfl).eq_of_answers answer
  have cf : (daa (s.setAcc r z n h c)).cf = _ := flagByte_c ..
  have a : (daa (s.setAcc r z n h c)).a = (daaAdjust _ _ _ _).1 := rfl
  rw [a, cf]
  simp

/-- Settles O47: ADD leaves its `add8` in A and the flags with N clear, and DAA adjusts it (`daaAdjust_add8_bcd`). -/
theorem decimalAdjustAfterAddition : Obligations.DecimalAdjustAfterAddition := by
  intro x b2 s t u ha hx added adjusted
  obtain rfl : addA (.imm8 x) s = t := (runs_decode3 rfl rfl).eq_of_answers added
  obtain ⟨a, carry⟩ := daa_setAcc adjusted
  rw [a, carry]
  exact daaAdjust_add8_bcd ha hx

/-- Settles O48: SUB leaves its `sub8` in A and the flags with N set, and DAA adjusts it (`daaAdjust_sub8_bcd`). -/
theorem decimalAdjustAfterSubtraction : Obligations.DecimalAdjustAfterSubtraction := by
  intro x b2 s t u ha hx subtracted adjusted
  obtain rfl : subA (.imm8 x) s = t := (runs_decode3 rfl rfl).eq_of_answers subtracted
  obtain ⟨a, borrow⟩ := daa_setAcc adjusted
  rw [a, borrow]
  exact daaAdjust_sub8_bcd ha hx

end Sys2Proof.Machine

namespace Sys2Proof.Machine

/-! ### 16-bit arithmetic -/

/-- The rows `00 pp1 001` (spec/43_alu16.md R136). -/
theorem record_addHl (p : Fin 4) (b1 b2 : Byte) :
    (decode3 (op (0x09 + 16 * p)) b1 b2).record =
      ⟨.base (op (0x09 + 16 * p)), .add, .r16 .hl, .r16 (rpField p), 1, 2, 0⟩ := by
  fin_cases p <;> rfl

/-- The rows `00 pp0 011` (spec/43_alu16.md R137). -/
theorem record_inc16 (p : Fin 4) (b1 b2 : Byte) :
    (decode3 (op (0x03 + 16 * p)) b1 b2).record =
      ⟨.base (op (0x03 + 16 * p)), .inc, .r16 (rpField p), .none, 1, 2, 0⟩ := by
  fin_cases p <;> rfl

/-- The rows `00 pp1 011` (spec/43_alu16.md R138). -/
theorem record_dec16 (p : Fin 4) (b1 b2 : Byte) :
    (decode3 (op (0x0B + 16 * p)) b1 b2).record =
      ⟨.base (op (0x0B + 16 * p)), .dec, .r16 (rpField p), .none, 1, 2, 0⟩ := by
  fin_cases p <;> rfl

/-- Settles O49: ADD HL is `add16`, whose closed form `add16_eq` gives the sum and the two carries, and INC and DEC are
one write of the pair. -/
theorem sixteenBitArithmetic : Obligations.SixteenBitArithmetic := by
  intro p b1 b2 s v r
  refine ⟨runs_decode3 (record_addHl p b1 b2) ?_, runs_decode3 (record_inc16 p b1 b2) rfl,
    runs_decode3 (record_dec16 p b1 b2) rfl⟩
  show addHl (rpField p) s = _
  rw [addHl, add16_eq]
  rfl

end Sys2Proof.Machine

namespace Sys2Proof.Machine

/-! ### The byte functions of the rotates and shifts (spec/44_rotate_shift_bit.md) -/

/-- R142 and R146 as a rotation. -/
theorem rlcByte_eq (v : Byte) : rlcByte v = (v.rotateLeft 1, v.getLsbD 7) := by
  revert v; decide

/-- R143 and R147 as a rotation. -/
theorem rrcByte_eq (v : Byte) : rrcByte v = (v.rotateRight 1, v.getLsbD 0) := by
  revert v; decide

/-- R144 and R148 over the numbers: a doubling modulo 2^8 plus the carry. -/
theorem rlByte_eq (c : Bool) (v : Byte) : rlByte c v = (BitVec.ofNat 8 (2 * v.toNat + bit c), v.getLsbD 7) := by
  revert c v; decide

/-- R145 and R149 over the numbers: a halving, with the carry in bit 7. -/
theorem rrByte_eq (c : Bool) (v : Byte) :
    rrByte c v = (BitVec.ofNat 8 (v.toNat / 2 + 128 * bit c), v.getLsbD 0) := by
  revert c v; decide

/-- R150 as a doubling. -/
theorem slaByte_eq (v : Byte) : slaByte v = (v + v, v.getLsbD 7) := by
  have doubled : v <<< 1 = v + v := BitVec.eq_of_toNat_eq (by simp [Nat.shiftLeft_eq, Nat.mul_two])
  rw [slaByte, doubled]

/-- R151 as an arithmetic shift. -/
theorem sraByte_eq (v : Byte) : sraByte v = (v.sshiftRight 1, v.getLsbD 0) := by
  revert v; decide

/-- R152 as a rotation by a nibble. -/
theorem swapByte_eq (v : Byte) : swapByte v = (v.rotateLeft 4, false) := rfl

/-- R153 as a halving. -/
theorem srlByte_eq (v : Byte) : srlByte v = (BitVec.ofNat 8 (v.toNat / 2), v.getLsbD 0) := by
  have halved : v >>> 1 = BitVec.ofNat 8 (v.toNat / 2) :=
    BitVec.eq_of_toNat_eq (by simp [Nat.shiftRight_eq_div_pow]; omega)
  rw [srlByte, halved]

/-! ### Rotates and shifts -/

theorem rotateA_eq {g : Byte → Byte × Bool} {s : State} {r : Byte} {c : Bool} (h : g s.a = (r, c)) :
    rotateA g s = { s with a := r, f := flagByte false false false c } := by
  rw [rotateA, h]; rfl

theorem rotate_eq {g : Byte → Byte × Bool} {t : Arg} {s : State} {r : Byte} {c : Bool} (h : g (rd8 t s) = (r, c)) :
    rotate g t s = { wr8 t r s with f := flagByte (decide (r = 0)) false false c } := by
  rw [rotate, h]; rfl

/-- Settles O50: each rotates A by its byte function, in closed form (`rlcByte_eq` to `rrByte_eq`). -/
theorem accumulatorRotates : Obligations.AccumulatorRotates := fun _ _ s =>
  ⟨runs_decode3 rfl (rotateA_eq (rlcByte_eq s.a)), runs_decode3 rfl (rotateA_eq (rrcByte_eq s.a)),
    runs_decode3 rfl (rotateA_eq (rlByte_eq s.cf s.a)), runs_decode3 rfl (rotateA_eq (rrByte_eq s.cf s.a))⟩

/-- The fields x, y and z of a selector (spec/30_encoding.md R69). -/
theorem selector_fields (x : Fin 4) (y z : Fin 8) :
    let sel := op (64 * x + 8 * y + z)
    (sel.extractLsb' 6 2).toNat = x ∧ (sel.extractLsb' 3 3).toNat = y ∧ (sel.extractLsb' 0 3).toNat = z := by
  intro sel
  have number : sel.toNat = 64 * x + 8 * y + z := Nat.mod_eq_of_lt (by omega)
  simp only [BitVec.extractLsb'_toNat, number, Nat.shiftRight_eq_div_pow]
  omega

/-- The rows of the extended table (spec/30_encoding.md R69; spec/44_rotate_shift_bit.md R140). -/
theorem record_extended (x : Fin 4) (y z : Fin 8) (b2 : Byte) :
    (decode3 0xCB (op (64 * x + 8 * y + z)) b2).record =
      ⟨.cb (op (64 * x + 8 * y + z)), extendedKind x y, r8Operand z, if x = 0 then .none else .lit (op y), 2,
        if z = 6 then (if x = 1 then 3 else 4) else 2, 0⟩ := by
  obtain ⟨hx, hy, hz⟩ := selector_fields x y z
  rw [decode3_cb, cbEntry_record, extendedRecord, hx, hy, hz]
  simp only [Fin.ext_iff]
  rfl

/-- Settles O51: each rotates its operand by its byte function, in closed form (`rlcByte_eq` to `srlByte_eq`). -/
theorem extendedRotatesAndShifts : Obligations.ExtendedRotatesAndShifts := by
  intro z b2 s t v n out
  exact ⟨runs_decode3 (record_extended 0 0 z b2) (rotate_eq (rlcByte_eq v)),
    runs_decode3 (record_extended 0 1 z b2) (rotate_eq (rrcByte_eq v)),
    runs_decode3 (record_extended 0 2 z b2) (rotate_eq (rlByte_eq s.cf v)),
    runs_decode3 (record_extended 0 3 z b2) (rotate_eq (rrByte_eq s.cf v)),
    runs_decode3 (record_extended 0 4 z b2) (rotate_eq (slaByte_eq v)),
    runs_decode3 (record_extended 0 5 z b2) (rotate_eq (sraByte_eq v)),
    runs_decode3 (record_extended 0 6 z b2) (rotate_eq (swapByte_eq v)),
    runs_decode3 (record_extended 0 7 z b2) (rotate_eq (srlByte_eq v))⟩

/-! ### Single bits -/

theorem toNat_op_fin8 (b : Fin 8) : (op b).toNat = b := Nat.mod_eq_of_lt (by omega)

/-- Settles O52: the bit tested is the literal of the row. -/
theorem bitTests : Obligations.BitTests := fun b z b2 s =>
  runs_decode3 (record_extended 1 b z b2) (congrArg (bitTest (r8Operand z) · s) (toNat_op_fin8 b))

/-- The mask of bit `b` (spec/44_rotate_shift_bit.md R155, R156). -/
theorem getLsbD_mask (b k : Fin 8) : ((1 : Byte) <<< (b : Nat)).getLsbD k = decide (k = b) := by
  revert b k; decide

theorem getLsbD_clearBit (v : Byte) (b k : Fin 8) :
    (v &&& ~~~((1 : Byte) <<< (b : Nat))).getLsbD k = if k = b then false else v.getLsbD k := by
  rw [BitVec.getLsbD_and, BitVec.getLsbD_not, getLsbD_mask]
  split <;> simp [*]

theorem getLsbD_setBit (v : Byte) (b k : Fin 8) :
    (v ||| (1 : Byte) <<< (b : Nat)).getLsbD k = if k = b then true else v.getLsbD k := by
  rw [BitVec.getLsbD_or, getLsbD_mask]
  split <;> simp [*]

/-- Settles O53: RES clears the bit by its complemented mask, and SET sets it by its mask. -/
theorem bitResetsAndSets : Obligations.BitResetsAndSets := by
  intro b z b2 s v n
  exact ⟨_, _, getLsbD_clearBit v b, getLsbD_setBit v b,
    runs_decode3 (record_extended 2 b z b2) (congrArg (bitReset (r8Operand z) · s) (toNat_op_fin8 b)),
    runs_decode3 (record_extended 3 b z b2) (congrArg (bitSet (r8Operand z) · s) (toNat_op_fin8 b))⟩

end Sys2Proof.Machine

namespace Sys2Proof.Machine

/-! ### Conditional transfers -/

/-- The condition of field `cc` (spec/30_encoding.md R61). -/
def condField : Fin 4 → CondKind := ![.nzero, .zero, .ncarry, .carry]

theorem taken_condField (s : State) (cc : Fin 4) : taken (.cond (condField cc)) s = ccTaken s cc := by
  fin_cases cc <;> rfl

/-- A row whose condition holds runs the execute phase of its record, at the base cost and the taken extra
(spec/40_engine.md R84, R87). -/
theorem runs_taken {b0 b1 b2 : Byte} {r : Record} {s t : State} (row : (decode3 b0 b1 b2).record = r)
    (condition : taken r.lhs s = true) (execute : executeRecord r s = t) :
    Runs (decode3 b0 b1 b2) s t r.length (r.cycles + r.takenExtra) := by
  subst row execute
  exact ⟨exec_eq_executeRecord (decode3_wellFormed b0 b1 b2) s, rfl, by rw [cost, if_pos condition]⟩

/-- A row whose condition fails runs the execute phase of its record, at the base cost (spec/40_engine.md R84, R87). -/
theorem runs_notTaken {b0 b1 b2 : Byte} {r : Record} {s t : State} (row : (decode3 b0 b1 b2).record = r)
    (condition : taken r.lhs s = false) (execute : executeRecord r s = t) :
    Runs (decode3 b0 b1 b2) s t r.length r.cycles := by
  subst row execute
  exact ⟨exec_eq_executeRecord (decode3_wellFormed b0 b1 b2) s, rfl, by simp [cost, condition]⟩

/-! ### The transfers, taken and not taken -/

section
variable {x y : Arg} {s : State}

theorem jr_of_taken (h : taken x s = true) (n : Byte) :
    jr x (.simm8 n) s = { s with pc := s.pc + (if n.getLsbD 7 then cat 0xFF n else cat 0 n) } := by
  rw [jr, if_pos h, show rd8 (.simm8 n) s = n from rfl, sext16_eq]

theorem jr_of_notTaken (h : taken x s = false) : jr x y s = s := if_neg (Bool.eq_false_iff.mp h)

theorem jp_of_taken (h : taken x s = true) (w : Word) : jp x (.imm16 w) s = { s with pc := w } := if_pos h

theorem jp_of_notTaken (h : taken x s = false) : jp x y s = s := if_neg (Bool.eq_false_iff.mp h)

theorem call_of_taken (h : taken x s = true) (w : Word) :
    call x (.imm16 w) s = { pushed s s.pc with pc := w } := by
  rw [call, if_pos h, push16_eq]; rfl

theorem call_of_notTaken (h : taken x s = false) : call x y s = s := if_neg (Bool.eq_false_iff.mp h)

theorem ret_of_taken (h : taken x s = true) :
    ret x s = { s with pc := cat (s.read (s.sp + 1)) (s.read s.sp), sp := s.sp + 2 } := by
  rw [ret, if_pos h, pop16_eq]

theorem ret_of_notTaken (h : taken x s = false) : ret x s = s := if_neg (Bool.eq_false_iff.mp h)

end

theorem reti_eq (s : State) :
    reti s = { s with pc := cat (s.read (s.sp + 1)) (s.read s.sp), sp := s.sp + 2, ime := true } := by
  rw [reti, State.returnFromInterrupt, pop16_eq]

theorem rst_lit (n : Byte) (s : State) : rst (.lit n) s = { pushed s s.pc with pc := zext16 n } := by
  rw [rst, push16_eq]; rfl

/-- The vector of field `y` (spec/45_control.md R167). -/
theorem zext16_restart (y : Fin 8) : zext16 (op (8 * y)) = BitVec.ofNat 16 (8 * y) := by
  revert y; decide

/-! ### The rows of the transfers -/

/-- The rows `00 1cc 000` (spec/45_control.md R158). -/
theorem record_jr_cond (cc : Fin 4) (b1 b2 : Byte) :
    (decode3 (op (0x20 + 8 * cc)) b1 b2).record =
      ⟨.base (op (0x20 + 8 * cc)), .jr, .cond (condField cc), .simm8 b1, 2, 2, 1⟩ := by
  fin_cases cc <;> rfl

/-- The rows `11 0cc 010` (spec/45_control.md R160). -/
theorem record_jp_cond (cc : Fin 4) (b1 b2 : Byte) :
    (decode3 (op (0xC2 + 8 * cc)) b1 b2).record =
      ⟨.base (op (0xC2 + 8 * cc)), .jp, .cond (condField cc), .imm16 (cat b2 b1), 3, 3, 1⟩ := by
  fin_cases cc <;> rfl

/-- The rows `11 0cc 100` (spec/45_control.md R163). -/
theorem record_call_cond (cc : Fin 4) (b1 b2 : Byte) :
    (decode3 (op (0xC4 + 8 * cc)) b1 b2).record =
      ⟨.base (op (0xC4 + 8 * cc)), .call, .cond (condField cc), .imm16 (cat b2 b1), 3, 3, 3⟩ := by
  fin_cases cc <;> rfl

/-- The rows `11 0cc 000` (spec/45_control.md R165). -/
theorem record_ret_cond (cc : Fin 4) (b1 b2 : Byte) :
    (decode3 (op (0xC0 + 8 * cc)) b1 b2).record =
      ⟨.base (op (0xC0 + 8 * cc)), .ret, .cond (condField cc), .none, 1, 2, 3⟩ := by
  fin_cases cc <;> rfl

/-- The rows `11 yyy 111` (spec/45_control.md R167). -/
theorem record_rst (y : Fin 8) (b1 b2 : Byte) :
    (decode3 (op (0xC7 + 8 * y)) b1 b2).record =
      ⟨.base (op (0xC7 + 8 * y)), .rst, .lit (op (8 * y)), .none, 1, 4, 0⟩ := by
  fin_cases y <;> rfl

/-! ### Control transfer -/

/-- Settles O54: `jr` and `jp` by the condition (`jr_of_taken` to `jp_of_notTaken`), and JP HL reads HL. -/
theorem jumps : Obligations.Jumps := by
  intro cc b1 b2 s near far
  rw [← taken_condField]
  exact ⟨runs_decode3 rfl (jr_of_taken rfl b1),
    fun h => runs_taken (record_jr_cond cc b1 b2) h (jr_of_taken h b1),
    fun h => runs_notTaken (record_jr_cond cc b1 b2) h (jr_of_notTaken h),
    runs_decode3 rfl (jp_of_taken rfl far),
    fun h => runs_taken (record_jp_cond cc b1 b2) h (jp_of_taken h far),
    fun h => runs_notTaken (record_jp_cond cc b1 b2) h (jp_of_notTaken h),
    runs_decode3 rfl rfl⟩

/-- Settles O55: `push16_eq` is the push of the PC, which `call_of_taken` and `rst_lit` then replace. -/
theorem callsAndRestarts : Obligations.CallsAndRestarts := by
  intro cc y b1 b2 s
  rw [← taken_condField, ← zext16_restart]
  exact ⟨runs_decode3 rfl (call_of_taken rfl (cat b2 b1)),
    fun h => runs_taken (record_call_cond cc b1 b2) h (call_of_taken h (cat b2 b1)),
    fun h => runs_notTaken (record_call_cond cc b1 b2) h (call_of_notTaken h),
    runs_decode3 (record_rst y b1 b2) (rst_lit (op (8 * y)) s)⟩

/-- Settles O56: the three pop the PC (`pop16_eq`), and `reti_eq` sets IME alone beside it. -/
theorem returns : Obligations.Returns := by
  intro cc b1 b2 s back
  rw [← taken_condField]
  exact ⟨runs_decode3 rfl (ret_of_taken rfl),
    fun h => runs_taken (record_ret_cond cc b1 b2) h (ret_of_taken h),
    fun h => runs_notTaken (record_ret_cond cc b1 b2) h (ret_of_notTaken h),
    runs_decode3 rfl (reti_eq s)⟩

end Sys2Proof.Machine

namespace Sys2Proof.Machine

/-! ### System instructions and illegal slots -/

/-- The slots of the base table that hold no instruction (spec/46_system.md R174). -/
def illegalOpcodes : List Byte := [0xD3, 0xDB, 0xDD, 0xE3, 0xE4, 0xEB, 0xEC, 0xED, 0xF4, 0xFC, 0xFD]

/-- The rows of the illegal slots: one byte, one cycle, no argument (spec/46_system.md R174). -/
theorem record_illegal {o : Byte} (h : o ∈ illegalOpcodes) (b1 b2 : Byte) :
    (decode3 o b1 b2).record = ⟨.base o, .illegal, .none, .none, 1, 1, 0⟩ := by
  unfold illegalOpcodes at h
  fin_cases h <;> rfl

/-- Settles O57: each is a plain row whose execute phase is one update of a control field, or none. -/
theorem systemInstructions : Obligations.SystemInstructions := by
  intro b1 b2 s
  have nopRuns : Runs (decode3 0x00 b1 b2) s (nop s) 1 1 := runs_decode3 rfl rfl
  have haltRuns : Runs (decode3 0x76 b1 b2) s (halt s) 1 1 := runs_decode3 rfl rfl
  have stopRuns : Runs (decode3 0x10 b1 b2) s (stop (.imm8 b1) s) 2 1 := runs_decode3 rfl rfl
  have diRuns : Runs (decode3 0xF3 b1 b2) s (di s) 1 1 := runs_decode3 rfl rfl
  have eiRuns : Runs (decode3 0xFB b1 b2) s (ei s) 1 1 := runs_decode3 rfl rfl
  exact ⟨nopRuns, haltRuns, stopRuns, diRuns, eiRuns⟩

/-- Settles O58: every illegal slot has the record of `record_illegal`, whose execute phase leaves the state as it is. -/
theorem illegalOpcodesAreNoOps : Obligations.IllegalOpcodesAreNoOps := by
  intro o b1 b2 s illegalSlot
  exact runs_decode3 (record_illegal illegalSlot b1 b2) rfl

end Sys2Proof.Machine

namespace Sys2Proof.Machine

/-! ### The reset state and its construction -/

/-- F as it is kept: bits 7 to 4 of a byte, the low nibble discarded (spec/10_state.md R16,
spec/70_reset_and_hazards.md R198). -/
theorem getLsbD_maskedHigh (v : Byte) (k : Fin 8) :
    (v &&& 0xF0).getLsbD k = (v.getLsbD k && decide (4 ≤ (k : Nat))) := by
  rw [BitVec.getLsbD_and]
  congr 1
  revert k; decide

/-- A drawn memory, kept for the addresses that `keep` admits, reads the last byte the draw gives (log entries 2, 15). -/
theorem Memory.lookup_storeAll_nil {keep : Nat → Bool} (xs : List Host.Cell) {n : Nat} (hn : keep n = true) :
    Memory.lookup (Memory.storeAll keep [] xs) n = (lastByte xs n).getD 0x00 :=
  Memory.lookup_storeAll Memory.wf_nil xs hn

/-- RAM reads as it was drawn, in `VOLATILE` and out of it (spec/70_reset_and_hazards.md R199). -/
theorem construct_read_ram (x : ResetInput) {a : Word} (ha : 0x7FFF < a.toNat) :
    (construct x).read a = (lastByte x.memory a.toNat).getD 0x00 := by
  rw [State.read, Bus.read_ram ha]
  split
  case isTrue volatile => exact Memory.lookup_storeAll_nil x.memory volatile
  case isFalse notVolatile =>
    have plain : isPlainRam a.toNat = true := by
      have inRam : Config.cartEnd < a.toNat := ha
      have inRange : a.toNat ≤ 0xFFFF := Nat.le_of_lt_succ a.isLt
      simp [isPlainRam, inRam, inRange, notVolatile]
    exact Memory.lookup_storeAll_nil x.memory plain

/-- The boot ROM is mapped after reset and reads the host's image (spec/70_reset_and_hazards.md R192, R195). -/
theorem construct_read_bootRom (x : ResetInput) {a : Word} (ha : a.toNat ≤ 0x00FF) :
    (construct x).read a = (lastByte x.bootRom a.toNat).getD 0x00 := by
  have inImage : inBootRom a.toNat = true := decide_eq_true ha
  calc (construct x).read a
    _ = Memory.lookup (construct x).bus.bootRom a.toNat := if_pos ⟨rfl, ha⟩
    _ = (lastByte x.bootRom a.toNat).getD 0x00 := Memory.lookup_storeAll_nil x.bootRom inImage

/-- The cartridge window above the overlay reads the host's cartridge, 0xFF past its end and where it is absent
(spec/20_memory.md R39). -/
theorem construct_read_cart (x : ResetInput) {a : Word} (above : 0x00FF < a.toNat) (ha : a.toNat ≤ 0x7FFF) :
    (construct x).read a = (x.cart.getD []).getD a.toNat 0xFF :=
  Bus.read_cart (.inr above) ha

/-- Settles O18: the reads are the laws of the three ranges, the flags `getLsbD_maskedHigh`, and `State.reset` is
`reset_eq_construct`. -/
theorem resetState : Obligations.ResetState := by
  refine ⟨fun x => ?_, reset_eq_construct⟩
  have flag (k : Fin 8) (hk : 4 ≤ (k : Nat)) : (construct x).f.getLsbD k = x.f.getLsbD k := by
    show (x.f &&& 0xF0).getLsbD k = x.f.getLsbD k
    rw [getLsbD_maskedHigh, decide_eq_true hk, Bool.and_true]
  have lowNibble (k : Nat) (hk : k < 4) : (construct x).f.getLsbD k = false := by
    show (x.f &&& 0xF0).getLsbD (⟨k, by omega⟩ : Fin 8) = false
    rw [getLsbD_maskedHigh, decide_eq_false (not_le.mpr hk), Bool.and_false]
  exact ⟨rfl, rfl, rfl, rfl, rfl, rfl, rfl, rfl, rfl, rfl, rfl, rfl, rfl, rfl,
    flag 7 (by decide), flag 6 (by decide), flag 5 (by decide), flag 4 (by decide), lowNibble,
    fun _ => construct_read_ram x, fun _ => construct_read_bootRom x, fun _ => construct_read_cart x,
    rfl, rfl, rfl, rfl⟩

/-- The guard of `constructOrFail` (spec/70_reset_and_hazards.md R201). -/
theorem cartRequiredAndAbsent_iff (required : Bool) (x : ResetInput) :
    (required && x.cart.isNone) = true ↔ required = true ∧ x.cart = none := by
  rw [Bool.and_eq_true, Option.isNone_iff_eq_none]

/-- Settles O19: the two branches of `constructOrFail`, and `construct_read_cart` of an absent image. -/
theorem constructionFailsWithoutARequiredCartridge : Obligations.ConstructionFailsWithoutARequiredCartridge := by
  intro required x
  rw [← cartRequiredAndAbsent_iff]
  refine ⟨fun fails => if_pos fails, fun succeeds => if_neg succeeds, fun absent a above ha => ?_⟩
  rw [construct_read_cart x above ha, absent]
  rfl

end Sys2Proof.Machine
